-- ==== Sys2Proof/Word.lean ====
section
/-! DEFINITION. The two word types of the machine: 8 bits for a register, a bus datum and an opcode, 16 bits for an
address, a pair, `SP` and `PC` (00_scope.md R7). -/

namespace Sys2Proof

/-- A general register, a byte of memory, an opcode byte: `u8` (R7, R9). -/
abbrev Byte := BitVec 8

/-- An address, a register pair, `SP`, `PC`: `u16` (R7, R9). -/
abbrev Word := BitVec 16

end Sys2Proof
end

