-- ==== Sys2Proof/WellFormed.lean ====
section
/-! DEFINITION. Which terms of `Instr` are instructions of the machine. Every immediate is legal (30_encoding.md R100); the
one check is that the byte of `illegal` is one of the eleven (R99, D26). -/

namespace Sys2Proof

/-- The eleven illegal opcode bytes (R99). -/
def illegalBytes : List Byte :=
  [0xD3, 0xDB, 0xDD, 0xE3, 0xE4, 0xEB, 0xEC, 0xED, 0xF4, 0xFC, 0xFD]

/-- The check: the byte of `illegal` is an illegal opcode; every other term is well formed. -/
def Instr.wellFormed (i : Instr) : Bool :=
  match i with
  | .illegal op => illegalBytes.contains op
  | _ => true

/-- `Instr.wellFormed` as a proposition. -/
abbrev Instr.WellFormed (i : Instr) : Prop := i.wellFormed = true

/-- The term is the illegal-opcode instruction. -/
def Instr.isIllegal (i : Instr) : Bool :=
  match i with
  | .illegal _ => true
  | _ => false

end Sys2Proof
end

