-- ==== Sys2Proof/Decode.lean ====
section
/-! DEFINITION. The byte-order and sign-extension helpers, the decoder (30_encoding.md R80 to R103), after it the encoder and
the descriptors, and the instruction forms by their operand codes. -/

namespace Sys2Proof

/-! ### Bytes and words (00_scope.md R9, R10) -/

/-- `hi8(w)`. -/
def hi8 (w : Word) : Byte := w.extractLsb' 8 8

/-- `lo8(w)`. -/
def lo8 (w : Word) : Byte := w.extractLsb' 0 8

/-- `hi ++ lo`. -/
def ofBytes (hi lo : Byte) : Word := hi ++ lo

/-- `signed8(v)`: the signed number `v - 256*v[7]`. -/
def signed8 (v : Byte) : Int := (v.toNat : Int) - 256 * (v.getLsbD 7).toNat

/-! ### The two opcode tables (R97, R98)

One function for each row of the map of R97 (the high nibble of the opcode byte), one arm for each column (the low
nibble); a nibble is below 16, so the last arm is column F and no encoding falls through. -/

/-- Row 0x of the unprefixed table (R97). -/
def row0 (lo : Nat) (n : Byte) (nn : Word) : Instr :=
  match lo with
  | 0x0 => .nop
  | 0x1 => .ldBcNn nn
  | 0x2 => .ldAtBcA
  | 0x3 => .incBc
  | 0x4 => .incB
  | 0x5 => .decB
  | 0x6 => .ldBN n
  | 0x7 => .rlca
  | 0x8 => .ldAtNnSp nn
  | 0x9 => .addHlBc
  | 0xA => .ldAAtBc
  | 0xB => .decBc
  | 0xC => .incC
  | 0xD => .decC
  | 0xE => .ldCN n
  | _ => .rrca

/-- Row 1x of the unprefixed table (R97). -/
def row1 (lo : Nat) (n : Byte) (nn : Word) : Instr :=
  match lo with
  | 0x0 => .stop n
  | 0x1 => .ldDeNn nn
  | 0x2 => .ldAtDeA
  | 0x3 => .incDe
  | 0x4 => .incD
  | 0x5 => .decD
  | 0x6 => .ldDN n
  | 0x7 => .rla
  | 0x8 => .jrE n
  | 0x9 => .addHlDe
  | 0xA => .ldAAtDe
  | 0xB => .decDe
  | 0xC => .incE
  | 0xD => .decE
  | 0xE => .ldEN n
  | _ => .rra

/-- Row 2x of the unprefixed table (R97). -/
def row2 (lo : Nat) (n : Byte) (nn : Word) : Instr :=
  match lo with
  | 0x0 => .jrNzE n
  | 0x1 => .ldHlNn nn
  | 0x2 => .ldAtHlIncA
  | 0x3 => .incHl
  | 0x4 => .incH
  | 0x5 => .decH
  | 0x6 => .ldHN n
  | 0x7 => .daa
  | 0x8 => .jrZE n
  | 0x9 => .addHlHl
  | 0xA => .ldAAtHlInc
  | 0xB => .decHl
  | 0xC => .incL
  | 0xD => .decL
  | 0xE => .ldLN n
  | _ => .cpl

/-- Row 3x of the unprefixed table (R97). -/
def row3 (lo : Nat) (n : Byte) (nn : Word) : Instr :=
  match lo with
  | 0x0 => .jrNcE n
  | 0x1 => .ldSpNn nn
  | 0x2 => .ldAtHlDecA
  | 0x3 => .incSp
  | 0x4 => .incAtHl
  | 0x5 => .decAtHl
  | 0x6 => .ldAtHlN n
  | 0x7 => .scf
  | 0x8 => .jrCE n
  | 0x9 => .addHlSp
  | 0xA => .ldAAtHlDec
  | 0xB => .decSp
  | 0xC => .incA
  | 0xD => .decA
  | 0xE => .ldAN n
  | _ => .ccf

/-- Row 4x of the unprefixed table (R97). -/
def row4 (lo : Nat) (_n : Byte) (_nn : Word) : Instr :=
  match lo with
  | 0x0 => .ldBB
  | 0x1 => .ldBC
  | 0x2 => .ldBD
  | 0x3 => .ldBE
  | 0x4 => .ldBH
  | 0x5 => .ldBL
  | 0x6 => .ldBAtHl
  | 0x7 => .ldBA
  | 0x8 => .ldCB
  | 0x9 => .ldCC
  | 0xA => .ldCD
  | 0xB => .ldCE
  | 0xC => .ldCH
  | 0xD => .ldCL
  | 0xE => .ldCAtHl
  | _ => .ldCA

/-- Row 5x of the unprefixed table (R97). -/
def row5 (lo : Nat) (_n : Byte) (_nn : Word) : Instr :=
  match lo with
  | 0x0 => .ldDB
  | 0x1 => .ldDC
  | 0x2 => .ldDD
  | 0x3 => .ldDE
  | 0x4 => .ldDH
  | 0x5 => .ldDL
  | 0x6 => .ldDAtHl
  | 0x7 => .ldDA
  | 0x8 => .ldEB
  | 0x9 => .ldEC
  | 0xA => .ldED
  | 0xB => .ldEE
  | 0xC => .ldEH
  | 0xD => .ldEL
  | 0xE => .ldEAtHl
  | _ => .ldEA

/-- Row 6x of the unprefixed table (R97). -/
def row6 (lo : Nat) (_n : Byte) (_nn : Word) : Instr :=
  match lo with
  | 0x0 => .ldHB
  | 0x1 => .ldHC
  | 0x2 => .ldHD
  | 0x3 => .ldHE
  | 0x4 => .ldHH
  | 0x5 => .ldHL
  | 0x6 => .ldHAtHl
  | 0x7 => .ldHA
  | 0x8 => .ldLB
  | 0x9 => .ldLC
  | 0xA => .ldLD
  | 0xB => .ldLE
  | 0xC => .ldLH
  | 0xD => .ldLL
  | 0xE => .ldLAtHl
  | _ => .ldLA

/-- Row 7x of the unprefixed table (R97). -/
def row7 (lo : Nat) (_n : Byte) (_nn : Word) : Instr :=
  match lo with
  | 0x0 => .ldAtHlB
  | 0x1 => .ldAtHlC
  | 0x2 => .ldAtHlD
  | 0x3 => .ldAtHlE
  | 0x4 => .ldAtHlH
  | 0x5 => .ldAtHlL
  | 0x6 => .halt
  | 0x7 => .ldAtHlA
  | 0x8 => .ldAB
  | 0x9 => .ldAC
  | 0xA => .ldAD
  | 0xB => .ldAE
  | 0xC => .ldAH
  | 0xD => .ldAL
  | 0xE => .ldAAtHl
  | _ => .ldAA

/-- Row 8x of the unprefixed table (R97). -/
def row8 (lo : Nat) (_n : Byte) (_nn : Word) : Instr :=
  match lo with
  | 0x0 => .addAB
  | 0x1 => .addAC
  | 0x2 => .addAD
  | 0x3 => .addAE
  | 0x4 => .addAH
  | 0x5 => .addAL
  | 0x6 => .addAAtHl
  | 0x7 => .addAA
  | 0x8 => .adcAB
  | 0x9 => .adcAC
  | 0xA => .adcAD
  | 0xB => .adcAE
  | 0xC => .adcAH
  | 0xD => .adcAL
  | 0xE => .adcAAtHl
  | _ => .adcAA

/-- Row 9x of the unprefixed table (R97). -/
def row9 (lo : Nat) (_n : Byte) (_nn : Word) : Instr :=
  match lo with
  | 0x0 => .subB
  | 0x1 => .subC
  | 0x2 => .subD
  | 0x3 => .subE
  | 0x4 => .subH
  | 0x5 => .subL
  | 0x6 => .subAtHl
  | 0x7 => .subA
  | 0x8 => .sbcAB
  | 0x9 => .sbcAC
  | 0xA => .sbcAD
  | 0xB => .sbcAE
  | 0xC => .sbcAH
  | 0xD => .sbcAL
  | 0xE => .sbcAAtHl
  | _ => .sbcAA

/-- Row Ax of the unprefixed table (R97). -/
def rowA (lo : Nat) (_n : Byte) (_nn : Word) : Instr :=
  match lo with
  | 0x0 => .andB
  | 0x1 => .andC
  | 0x2 => .andD
  | 0x3 => .andE
  | 0x4 => .andH
  | 0x5 => .andL
  | 0x6 => .andAtHl
  | 0x7 => .andA
  | 0x8 => .xorB
  | 0x9 => .xorC
  | 0xA => .xorD
  | 0xB => .xorE
  | 0xC => .xorH
  | 0xD => .xorL
  | 0xE => .xorAtHl
  | _ => .xorA

/-- Row Bx of the unprefixed table (R97). -/
def rowB (lo : Nat) (_n : Byte) (_nn : Word) : Instr :=
  match lo with
  | 0x0 => .orB
  | 0x1 => .orC
  | 0x2 => .orD
  | 0x3 => .orE
  | 0x4 => .orH
  | 0x5 => .orL
  | 0x6 => .orAtHl
  | 0x7 => .orA
  | 0x8 => .cpB
  | 0x9 => .cpC
  | 0xA => .cpD
  | 0xB => .cpE
  | 0xC => .cpH
  | 0xD => .cpL
  | 0xE => .cpAtHl
  | _ => .cpA

/-- Row Cx of the unprefixed table (R97). -/
def rowC (lo : Nat) (n : Byte) (nn : Word) : Instr :=
  match lo with
  | 0x0 => .retNz
  | 0x1 => .popBc
  | 0x2 => .jpNzNn nn
  | 0x3 => .jpNn nn
  | 0x4 => .callNzNn nn
  | 0x5 => .pushBc
  | 0x6 => .addAN n
  | 0x7 => .rst00
  | 0x8 => .retZ
  | 0x9 => .ret
  | 0xA => .jpZNn nn
  | 0xB => .prefixCb
  | 0xC => .callZNn nn
  | 0xD => .callNn nn
  | 0xE => .adcAN n
  | _ => .rst08

/-- Row Dx of the unprefixed table (R97). -/
def rowD (lo : Nat) (n : Byte) (nn : Word) : Instr :=
  match lo with
  | 0x0 => .retNc
  | 0x1 => .popDe
  | 0x2 => .jpNcNn nn
  | 0x3 => .illegal 0xD3
  | 0x4 => .callNcNn nn
  | 0x5 => .pushDe
  | 0x6 => .subN n
  | 0x7 => .rst10
  | 0x8 => .retC
  | 0x9 => .reti
  | 0xA => .jpCNn nn
  | 0xB => .illegal 0xDB
  | 0xC => .callCNn nn
  | 0xD => .illegal 0xDD
  | 0xE => .sbcAN n
  | _ => .rst18

/-- Row Ex of the unprefixed table (R97). -/
def rowE (lo : Nat) (n : Byte) (nn : Word) : Instr :=
  match lo with
  | 0x0 => .ldhAtNA n
  | 0x1 => .popHl
  | 0x2 => .ldhAtCA
  | 0x3 => .illegal 0xE3
  | 0x4 => .illegal 0xE4
  | 0x5 => .pushHl
  | 0x6 => .andN n
  | 0x7 => .rst20
  | 0x8 => .addSpE n
  | 0x9 => .jpHl
  | 0xA => .ldAtNnA nn
  | 0xB => .illegal 0xEB
  | 0xC => .illegal 0xEC
  | 0xD => .illegal 0xED
  | 0xE => .xorN n
  | _ => .rst28

/-- Row Fx of the unprefixed table (R97). -/
def rowF (lo : Nat) (n : Byte) (nn : Word) : Instr :=
  match lo with
  | 0x0 => .ldhAAtN n
  | 0x1 => .popAf
  | 0x2 => .ldhAAtC
  | 0x3 => .di
  | 0x4 => .illegal 0xF4
  | 0x5 => .pushAf
  | 0x6 => .orN n
  | 0x7 => .rst30
  | 0x8 => .ldHlSpE n
  | 0x9 => .ldSpHl
  | 0xA => .ldAAtNn nn
  | 0xB => .ei
  | 0xC => .illegal 0xFC
  | 0xD => .illegal 0xFD
  | 0xE => .cpN n
  | _ => .rst38

/-- The unprefixed table: the instruction of an opcode byte, with `n` (or `e`) and `nn` as its immediate (R97). -/
def unprefixedSlot (op : Byte) (n : Byte) (nn : Word) : Instr :=
  match op.toNat / 16 with
  | 0x0 => row0 (op.toNat % 16) n nn
  | 0x1 => row1 (op.toNat % 16) n nn
  | 0x2 => row2 (op.toNat % 16) n nn
  | 0x3 => row3 (op.toNat % 16) n nn
  | 0x4 => row4 (op.toNat % 16) n nn
  | 0x5 => row5 (op.toNat % 16) n nn
  | 0x6 => row6 (op.toNat % 16) n nn
  | 0x7 => row7 (op.toNat % 16) n nn
  | 0x8 => row8 (op.toNat % 16) n nn
  | 0x9 => row9 (op.toNat % 16) n nn
  | 0xA => rowA (op.toNat % 16) n nn
  | 0xB => rowB (op.toNat % 16) n nn
  | 0xC => rowC (op.toNat % 16) n nn
  | 0xD => rowD (op.toNat % 16) n nn
  | 0xE => rowE (op.toNat % 16) n nn
  | _ => rowF (op.toNat % 16) n nn

/-- Row 0x of the CB table (R98). -/
def cbRow0 (lo : Nat) : Instr :=
  match lo with
  | 0x0 => .rlcB
  | 0x1 => .rlcC
  | 0x2 => .rlcD
  | 0x3 => .rlcE
  | 0x4 => .rlcH
  | 0x5 => .rlcL
  | 0x6 => .rlcAtHl
  | 0x7 => .rlcA
  | 0x8 => .rrcB
  | 0x9 => .rrcC
  | 0xA => .rrcD
  | 0xB => .rrcE
  | 0xC => .rrcH
  | 0xD => .rrcL
  | 0xE => .rrcAtHl
  | _ => .rrcA

/-- Row 1x of the CB table (R98). -/
def cbRow1 (lo : Nat) : Instr :=
  match lo with
  | 0x0 => .rlB
  | 0x1 => .rlC
  | 0x2 => .rlD
  | 0x3 => .rlE
  | 0x4 => .rlH
  | 0x5 => .rlL
  | 0x6 => .rlAtHl
  | 0x7 => .rlA
  | 0x8 => .rrB
  | 0x9 => .rrC
  | 0xA => .rrD
  | 0xB => .rrE
  | 0xC => .rrH
  | 0xD => .rrL
  | 0xE => .rrAtHl
  | _ => .rrA

/-- Row 2x of the CB table (R98). -/
def cbRow2 (lo : Nat) : Instr :=
  match lo with
  | 0x0 => .slaB
  | 0x1 => .slaC
  | 0x2 => .slaD
  | 0x3 => .slaE
  | 0x4 => .slaH
  | 0x5 => .slaL
  | 0x6 => .slaAtHl
  | 0x7 => .slaA
  | 0x8 => .sraB
  | 0x9 => .sraC
  | 0xA => .sraD
  | 0xB => .sraE
  | 0xC => .sraH
  | 0xD => .sraL
  | 0xE => .sraAtHl
  | _ => .sraA

/-- Row 3x of the CB table (R98). -/
def cbRow3 (lo : Nat) : Instr :=
  match lo with
  | 0x0 => .swapB
  | 0x1 => .swapC
  | 0x2 => .swapD
  | 0x3 => .swapE
  | 0x4 => .swapH
  | 0x5 => .swapL
  | 0x6 => .swapAtHl
  | 0x7 => .swapA
  | 0x8 => .srlB
  | 0x9 => .srlC
  | 0xA => .srlD
  | 0xB => .srlE
  | 0xC => .srlH
  | 0xD => .srlL
  | 0xE => .srlAtHl
  | _ => .srlA

/-- Row 4x of the CB table (R98). -/
def cbRow4 (lo : Nat) : Instr :=
  match lo with
  | 0x0 => .bit0B
  | 0x1 => .bit0C
  | 0x2 => .bit0D
  | 0x3 => .bit0E
  | 0x4 => .bit0H
  | 0x5 => .bit0L
  | 0x6 => .bit0AtHl
  | 0x7 => .bit0A
  | 0x8 => .bit1B
  | 0x9 => .bit1C
  | 0xA => .bit1D
  | 0xB => .bit1E
  | 0xC => .bit1H
  | 0xD => .bit1L
  | 0xE => .bit1AtHl
  | _ => .bit1A

/-- Row 5x of the CB table (R98). -/
def cbRow5 (lo : Nat) : Instr :=
  match lo with
  | 0x0 => .bit2B
  | 0x1 => .bit2C
  | 0x2 => .bit2D
  | 0x3 => .bit2E
  | 0x4 => .bit2H
  | 0x5 => .bit2L
  | 0x6 => .bit2AtHl
  | 0x7 => .bit2A
  | 0x8 => .bit3B
  | 0x9 => .bit3C
  | 0xA => .bit3D
  | 0xB => .bit3E
  | 0xC => .bit3H
  | 0xD => .bit3L
  | 0xE => .bit3AtHl
  | _ => .bit3A

/-- Row 6x of the CB table (R98). -/
def cbRow6 (lo : Nat) : Instr :=
  match lo with
  | 0x0 => .bit4B
  | 0x1 => .bit4C
  | 0x2 => .bit4D
  | 0x3 => .bit4E
  | 0x4 => .bit4H
  | 0x5 => .bit4L
  | 0x6 => .bit4AtHl
  | 0x7 => .bit4A
  | 0x8 => .bit5B
  | 0x9 => .bit5C
  | 0xA => .bit5D
  | 0xB => .bit5E
  | 0xC => .bit5H
  | 0xD => .bit5L
  | 0xE => .bit5AtHl
  | _ => .bit5A

/-- Row 7x of the CB table (R98). -/
def cbRow7 (lo : Nat) : Instr :=
  match lo with
  | 0x0 => .bit6B
  | 0x1 => .bit6C
  | 0x2 => .bit6D
  | 0x3 => .bit6E
  | 0x4 => .bit6H
  | 0x5 => .bit6L
  | 0x6 => .bit6AtHl
  | 0x7 => .bit6A
  | 0x8 => .bit7B
  | 0x9 => .bit7C
  | 0xA => .bit7D
  | 0xB => .bit7E
  | 0xC => .bit7H
  | 0xD => .bit7L
  | 0xE => .bit7AtHl
  | _ => .bit7A

/-- Row 8x of the CB table (R98). -/
def cbRow8 (lo : Nat) : Instr :=
  match lo with
  | 0x0 => .res0B
  | 0x1 => .res0C
  | 0x2 => .res0D
  | 0x3 => .res0E
  | 0x4 => .res0H
  | 0x5 => .res0L
  | 0x6 => .res0AtHl
  | 0x7 => .res0A
  | 0x8 => .res1B
  | 0x9 => .res1C
  | 0xA => .res1D
  | 0xB => .res1E
  | 0xC => .res1H
  | 0xD => .res1L
  | 0xE => .res1AtHl
  | _ => .res1A

/-- Row 9x of the CB table (R98). -/
def cbRow9 (lo : Nat) : Instr :=
  match lo with
  | 0x0 => .res2B
  | 0x1 => .res2C
  | 0x2 => .res2D
  | 0x3 => .res2E
  | 0x4 => .res2H
  | 0x5 => .res2L
  | 0x6 => .res2AtHl
  | 0x7 => .res2A
  | 0x8 => .res3B
  | 0x9 => .res3C
  | 0xA => .res3D
  | 0xB => .res3E
  | 0xC => .res3H
  | 0xD => .res3L
  | 0xE => .res3AtHl
  | _ => .res3A

/-- Row Ax of the CB table (R98). -/
def cbRowA (lo : Nat) : Instr :=
  match lo with
  | 0x0 => .res4B
  | 0x1 => .res4C
  | 0x2 => .res4D
  | 0x3 => .res4E
  | 0x4 => .res4H
  | 0x5 => .res4L
  | 0x6 => .res4AtHl
  | 0x7 => .res4A
  | 0x8 => .res5B
  | 0x9 => .res5C
  | 0xA => .res5D
  | 0xB => .res5E
  | 0xC => .res5H
  | 0xD => .res5L
  | 0xE => .res5AtHl
  | _ => .res5A

/-- Row Bx of the CB table (R98). -/
def cbRowB (lo : Nat) : Instr :=
  match lo with
  | 0x0 => .res6B
  | 0x1 => .res6C
  | 0x2 => .res6D
  | 0x3 => .res6E
  | 0x4 => .res6H
  | 0x5 => .res6L
  | 0x6 => .res6AtHl
  | 0x7 => .res6A
  | 0x8 => .res7B
  | 0x9 => .res7C
  | 0xA => .res7D
  | 0xB => .res7E
  | 0xC => .res7H
  | 0xD => .res7L
  | 0xE => .res7AtHl
  | _ => .res7A

/-- Row Cx of the CB table (R98). -/
def cbRowC (lo : Nat) : Instr :=
  match lo with
  | 0x0 => .set0B
  | 0x1 => .set0C
  | 0x2 => .set0D
  | 0x3 => .set0E
  | 0x4 => .set0H
  | 0x5 => .set0L
  | 0x6 => .set0AtHl
  | 0x7 => .set0A
  | 0x8 => .set1B
  | 0x9 => .set1C
  | 0xA => .set1D
  | 0xB => .set1E
  | 0xC => .set1H
  | 0xD => .set1L
  | 0xE => .set1AtHl
  | _ => .set1A

/-- Row Dx of the CB table (R98). -/
def cbRowD (lo : Nat) : Instr :=
  match lo with
  | 0x0 => .set2B
  | 0x1 => .set2C
  | 0x2 => .set2D
  | 0x3 => .set2E
  | 0x4 => .set2H
  | 0x5 => .set2L
  | 0x6 => .set2AtHl
  | 0x7 => .set2A
  | 0x8 => .set3B
  | 0x9 => .set3C
  | 0xA => .set3D
  | 0xB => .set3E
  | 0xC => .set3H
  | 0xD => .set3L
  | 0xE => .set3AtHl
  | _ => .set3A

/-- Row Ex of the CB table (R98). -/
def cbRowE (lo : Nat) : Instr :=
  match lo with
  | 0x0 => .set4B
  | 0x1 => .set4C
  | 0x2 => .set4D
  | 0x3 => .set4E
  | 0x4 => .set4H
  | 0x5 => .set4L
  | 0x6 => .set4AtHl
  | 0x7 => .set4A
  | 0x8 => .set5B
  | 0x9 => .set5C
  | 0xA => .set5D
  | 0xB => .set5E
  | 0xC => .set5H
  | 0xD => .set5L
  | 0xE => .set5AtHl
  | _ => .set5A

/-- Row Fx of the CB table (R98). -/
def cbRowF (lo : Nat) : Instr :=
  match lo with
  | 0x0 => .set6B
  | 0x1 => .set6C
  | 0x2 => .set6D
  | 0x3 => .set6E
  | 0x4 => .set6H
  | 0x5 => .set6L
  | 0x6 => .set6AtHl
  | 0x7 => .set6A
  | 0x8 => .set7B
  | 0x9 => .set7C
  | 0xA => .set7D
  | 0xB => .set7E
  | 0xC => .set7H
  | 0xD => .set7L
  | 0xE => .set7AtHl
  | _ => .set7A

/-- The CB table: the instruction of a second opcode byte (R98). -/
def cbSlot (op2 : Byte) : Instr :=
  match op2.toNat / 16 with
  | 0x0 => cbRow0 (op2.toNat % 16)
  | 0x1 => cbRow1 (op2.toNat % 16)
  | 0x2 => cbRow2 (op2.toNat % 16)
  | 0x3 => cbRow3 (op2.toNat % 16)
  | 0x4 => cbRow4 (op2.toNat % 16)
  | 0x5 => cbRow5 (op2.toNat % 16)
  | 0x6 => cbRow6 (op2.toNat % 16)
  | 0x7 => cbRow7 (op2.toNat % 16)
  | 0x8 => cbRow8 (op2.toNat % 16)
  | 0x9 => cbRow9 (op2.toNat % 16)
  | 0xA => cbRowA (op2.toNat % 16)
  | 0xB => cbRowB (op2.toNat % 16)
  | 0xC => cbRowC (op2.toNat % 16)
  | 0xD => cbRowD (op2.toNat % 16)
  | 0xE => cbRowE (op2.toNat % 16)
  | _ => cbRowF (op2.toNat % 16)

/-! ### Lengths (R80, R81, R95) -/

/-- The immediate of an instruction: none, one byte (`n` or `e`), or two bytes (`nn`). -/
inductive Immediate where
  | none
  | byte
  | word
  deriving DecidableEq, Repr

/-- How many bytes an immediate has. -/
def Immediate.size : Immediate → Nat
  | .none => 0
  | .byte => 1
  | .word => 2

/-- The first bytes of the 3-byte instructions (R95). -/
def wordImmediateBytes : List Byte :=
  [0x01, 0x11, 0x21, 0x31, 0x08, 0xC2, 0xCA, 0xD2, 0xDA, 0xC3, 0xC4, 0xCC, 0xD4, 0xDC, 0xCD, 0xEA, 0xFA]

/-- The first bytes of the 2-byte instructions but for the CB byte, whose second byte is an opcode byte (R95). -/
def byteImmediateBytes : List Byte :=
  [0x06, 0x0E, 0x16, 0x1E, 0x26, 0x2E, 0x36, 0x3E, 0x10, 0x18, 0x20, 0x28, 0x30, 0x38,
   0xC6, 0xCE, 0xD6, 0xDE, 0xE6, 0xEE, 0xF6, 0xFE, 0xE0, 0xF0, 0xE8, 0xF8]

/-- The immediate that follows an unprefixed opcode byte (R95). -/
def immediateOf (op : Byte) : Immediate :=
  if wordImmediateBytes.contains op then .word
  else if byteImmediateBytes.contains op then .byte
  else .none

/-- The byte that selects the CB table (R96). -/
def cbByte : Byte := 0xCB

/-! ### The decoder -/

/-- Why a list of bytes does not decode. Every complete encoding decodes: an illegal byte to `illegal` (R99). -/
inductive DecodeError where
  /-- There is no byte. -/
  | noByte
  /-- The immediate is cut off: the instruction has `need` bytes and `got` are there. -/
  | truncated (got need : Nat)
  deriving DecidableEq, Repr

/-- The outcome of decoding: the instruction and the bytes after it, or the reason there is none. -/
inductive Decoded where
  | ok (i : Instr) (rest : List Byte)
  | rejected (e : DecodeError)
  deriving DecidableEq, Repr

/-- The instruction at the head of a list of bytes (R80, R90, R95, R96). The CB byte with nothing after it is the table
slot `PREFIX CB` itself. -/
def decode (bytes : List Byte) : Decoded :=
  match bytes with
  | [] => .rejected .noByte
  | op :: rest =>
    if op = cbByte then
      match rest with
      | [] => .ok .prefixCb []
      | op2 :: rest => .ok (cbSlot op2) rest
    else
      match immediateOf op, rest with
      | .none, rest => .ok (unprefixedSlot op 0 0) rest
      | .byte, n :: rest => .ok (unprefixedSlot op n 0) rest
      | .byte, [] => .rejected (.truncated 1 2)
      | .word, lo :: hi :: rest => .ok (unprefixedSlot op 0 (ofBytes hi lo)) rest
      | .word, rest => .rejected (.truncated (1 + rest.length) 3)

/-! ### The encoder -/

/-- The bytes of an instruction at ascending addresses (R80, R81, R97, R98). -/
def encode (i : Instr) : List Byte :=
  match i with
  | .nop => [0x00]
  | .ldBcNn nn => [0x01, lo8 nn, hi8 nn]
  | .ldAtBcA => [0x02]
  | .incBc => [0x03]
  | .incB => [0x04]
  | .decB => [0x05]
  | .ldBN n => [0x06, n]
  | .rlca => [0x07]
  | .ldAtNnSp nn => [0x08, lo8 nn, hi8 nn]
  | .addHlBc => [0x09]
  | .ldAAtBc => [0x0A]
  | .decBc => [0x0B]
  | .incC => [0x0C]
  | .decC => [0x0D]
  | .ldCN n => [0x0E, n]
  | .rrca => [0x0F]
  | .stop n => [0x10, n]
  | .ldDeNn nn => [0x11, lo8 nn, hi8 nn]
  | .ldAtDeA => [0x12]
  | .incDe => [0x13]
  | .incD => [0x14]
  | .decD => [0x15]
  | .ldDN n => [0x16, n]
  | .rla => [0x17]
  | .jrE e => [0x18, e]
  | .addHlDe => [0x19]
  | .ldAAtDe => [0x1A]
  | .decDe => [0x1B]
  | .incE => [0x1C]
  | .decE => [0x1D]
  | .ldEN n => [0x1E, n]
  | .rra => [0x1F]
  | .jrNzE e => [0x20, e]
  | .ldHlNn nn => [0x21, lo8 nn, hi8 nn]
  | .ldAtHlIncA => [0x22]
  | .incHl => [0x23]
  | .incH => [0x24]
  | .decH => [0x25]
  | .ldHN n => [0x26, n]
  | .daa => [0x27]
  | .jrZE e => [0x28, e]
  | .addHlHl => [0x29]
  | .ldAAtHlInc => [0x2A]
  | .decHl => [0x2B]
  | .incL => [0x2C]
  | .decL => [0x2D]
  | .ldLN n => [0x2E, n]
  | .cpl => [0x2F]
  | .jrNcE e => [0x30, e]
  | .ldSpNn nn => [0x31, lo8 nn, hi8 nn]
  | .ldAtHlDecA => [0x32]
  | .incSp => [0x33]
  | .incAtHl => [0x34]
  | .decAtHl => [0x35]
  | .ldAtHlN n => [0x36, n]
  | .scf => [0x37]
  | .jrCE e => [0x38, e]
  | .addHlSp => [0x39]
  | .ldAAtHlDec => [0x3A]
  | .decSp => [0x3B]
  | .incA => [0x3C]
  | .decA => [0x3D]
  | .ldAN n => [0x3E, n]
  | .ccf => [0x3F]
  | .ldBB => [0x40]
  | .ldBC => [0x41]
  | .ldBD => [0x42]
  | .ldBE => [0x43]
  | .ldBH => [0x44]
  | .ldBL => [0x45]
  | .ldBAtHl => [0x46]
  | .ldBA => [0x47]
  | .ldCB => [0x48]
  | .ldCC => [0x49]
  | .ldCD => [0x4A]
  | .ldCE => [0x4B]
  | .ldCH => [0x4C]
  | .ldCL => [0x4D]
  | .ldCAtHl => [0x4E]
  | .ldCA => [0x4F]
  | .ldDB => [0x50]
  | .ldDC => [0x51]
  | .ldDD => [0x52]
  | .ldDE => [0x53]
  | .ldDH => [0x54]
  | .ldDL => [0x55]
  | .ldDAtHl => [0x56]
  | .ldDA => [0x57]
  | .ldEB => [0x58]
  | .ldEC => [0x59]
  | .ldED => [0x5A]
  | .ldEE => [0x5B]
  | .ldEH => [0x5C]
  | .ldEL => [0x5D]
  | .ldEAtHl => [0x5E]
  | .ldEA => [0x5F]
  | .ldHB => [0x60]
  | .ldHC => [0x61]
  | .ldHD => [0x62]
  | .ldHE => [0x63]
  | .ldHH => [0x64]
  | .ldHL => [0x65]
  | .ldHAtHl => [0x66]
  | .ldHA => [0x67]
  | .ldLB => [0x68]
  | .ldLC => [0x69]
  | .ldLD => [0x6A]
  | .ldLE => [0x6B]
  | .ldLH => [0x6C]
  | .ldLL => [0x6D]
  | .ldLAtHl => [0x6E]
  | .ldLA => [0x6F]
  | .ldAtHlB => [0x70]
  | .ldAtHlC => [0x71]
  | .ldAtHlD => [0x72]
  | .ldAtHlE => [0x73]
  | .ldAtHlH => [0x74]
  | .ldAtHlL => [0x75]
  | .halt => [0x76]
  | .ldAtHlA => [0x77]
  | .ldAB => [0x78]
  | .ldAC => [0x79]
  | .ldAD => [0x7A]
  | .ldAE => [0x7B]
  | .ldAH => [0x7C]
  | .ldAL => [0x7D]
  | .ldAAtHl => [0x7E]
  | .ldAA => [0x7F]
  | .addAB => [0x80]
  | .addAC => [0x81]
  | .addAD => [0x82]
  | .addAE => [0x83]
  | .addAH => [0x84]
  | .addAL => [0x85]
  | .addAAtHl => [0x86]
  | .addAA => [0x87]
  | .adcAB => [0x88]
  | .adcAC => [0x89]
  | .adcAD => [0x8A]
  | .adcAE => [0x8B]
  | .adcAH => [0x8C]
  | .adcAL => [0x8D]
  | .adcAAtHl => [0x8E]
  | .adcAA => [0x8F]
  | .subB => [0x90]
  | .subC => [0x91]
  | .subD => [0x92]
  | .subE => [0x93]
  | .subH => [0x94]
  | .subL => [0x95]
  | .subAtHl => [0x96]
  | .subA => [0x97]
  | .sbcAB => [0x98]
  | .sbcAC => [0x99]
  | .sbcAD => [0x9A]
  | .sbcAE => [0x9B]
  | .sbcAH => [0x9C]
  | .sbcAL => [0x9D]
  | .sbcAAtHl => [0x9E]
  | .sbcAA => [0x9F]
  | .andB => [0xA0]
  | .andC => [0xA1]
  | .andD => [0xA2]
  | .andE => [0xA3]
  | .andH => [0xA4]
  | .andL => [0xA5]
  | .andAtHl => [0xA6]
  | .andA => [0xA7]
  | .xorB => [0xA8]
  | .xorC => [0xA9]
  | .xorD => [0xAA]
  | .xorE => [0xAB]
  | .xorH => [0xAC]
  | .xorL => [0xAD]
  | .xorAtHl => [0xAE]
  | .xorA => [0xAF]
  | .orB => [0xB0]
  | .orC => [0xB1]
  | .orD => [0xB2]
  | .orE => [0xB3]
  | .orH => [0xB4]
  | .orL => [0xB5]
  | .orAtHl => [0xB6]
  | .orA => [0xB7]
  | .cpB => [0xB8]
  | .cpC => [0xB9]
  | .cpD => [0xBA]
  | .cpE => [0xBB]
  | .cpH => [0xBC]
  | .cpL => [0xBD]
  | .cpAtHl => [0xBE]
  | .cpA => [0xBF]
  | .retNz => [0xC0]
  | .popBc => [0xC1]
  | .jpNzNn nn => [0xC2, lo8 nn, hi8 nn]
  | .jpNn nn => [0xC3, lo8 nn, hi8 nn]
  | .callNzNn nn => [0xC4, lo8 nn, hi8 nn]
  | .pushBc => [0xC5]
  | .addAN n => [0xC6, n]
  | .rst00 => [0xC7]
  | .retZ => [0xC8]
  | .ret => [0xC9]
  | .jpZNn nn => [0xCA, lo8 nn, hi8 nn]
  | .prefixCb => [0xCB]
  | .callZNn nn => [0xCC, lo8 nn, hi8 nn]
  | .callNn nn => [0xCD, lo8 nn, hi8 nn]
  | .adcAN n => [0xCE, n]
  | .rst08 => [0xCF]
  | .retNc => [0xD0]
  | .popDe => [0xD1]
  | .jpNcNn nn => [0xD2, lo8 nn, hi8 nn]
  | .callNcNn nn => [0xD4, lo8 nn, hi8 nn]
  | .pushDe => [0xD5]
  | .subN n => [0xD6, n]
  | .rst10 => [0xD7]
  | .retC => [0xD8]
  | .reti => [0xD9]
  | .jpCNn nn => [0xDA, lo8 nn, hi8 nn]
  | .callCNn nn => [0xDC, lo8 nn, hi8 nn]
  | .sbcAN n => [0xDE, n]
  | .rst18 => [0xDF]
  | .ldhAtNA n => [0xE0, n]
  | .popHl => [0xE1]
  | .ldhAtCA => [0xE2]
  | .pushHl => [0xE5]
  | .andN n => [0xE6, n]
  | .rst20 => [0xE7]
  | .addSpE e => [0xE8, e]
  | .jpHl => [0xE9]
  | .ldAtNnA nn => [0xEA, lo8 nn, hi8 nn]
  | .xorN n => [0xEE, n]
  | .rst28 => [0xEF]
  | .ldhAAtN n => [0xF0, n]
  | .popAf => [0xF1]
  | .ldhAAtC => [0xF2]
  | .di => [0xF3]
  | .pushAf => [0xF5]
  | .orN n => [0xF6, n]
  | .rst30 => [0xF7]
  | .ldHlSpE e => [0xF8, e]
  | .ldSpHl => [0xF9]
  | .ldAAtNn nn => [0xFA, lo8 nn, hi8 nn]
  | .ei => [0xFB]
  | .cpN n => [0xFE, n]
  | .rst38 => [0xFF]
  | .rlcB => [0xCB, 0x00]
  | .rlcC => [0xCB, 0x01]
  | .rlcD => [0xCB, 0x02]
  | .rlcE => [0xCB, 0x03]
  | .rlcH => [0xCB, 0x04]
  | .rlcL => [0xCB, 0x05]
  | .rlcAtHl => [0xCB, 0x06]
  | .rlcA => [0xCB, 0x07]
  | .rrcB => [0xCB, 0x08]
  | .rrcC => [0xCB, 0x09]
  | .rrcD => [0xCB, 0x0A]
  | .rrcE => [0xCB, 0x0B]
  | .rrcH => [0xCB, 0x0C]
  | .rrcL => [0xCB, 0x0D]
  | .rrcAtHl => [0xCB, 0x0E]
  | .rrcA => [0xCB, 0x0F]
  | .rlB => [0xCB, 0x10]
  | .rlC => [0xCB, 0x11]
  | .rlD => [0xCB, 0x12]
  | .rlE => [0xCB, 0x13]
  | .rlH => [0xCB, 0x14]
  | .rlL => [0xCB, 0x15]
  | .rlAtHl => [0xCB, 0x16]
  | .rlA => [0xCB, 0x17]
  | .rrB => [0xCB, 0x18]
  | .rrC => [0xCB, 0x19]
  | .rrD => [0xCB, 0x1A]
  | .rrE => [0xCB, 0x1B]
  | .rrH => [0xCB, 0x1C]
  | .rrL => [0xCB, 0x1D]
  | .rrAtHl => [0xCB, 0x1E]
  | .rrA => [0xCB, 0x1F]
  | .slaB => [0xCB, 0x20]
  | .slaC => [0xCB, 0x21]
  | .slaD => [0xCB, 0x22]
  | .slaE => [0xCB, 0x23]
  | .slaH => [0xCB, 0x24]
  | .slaL => [0xCB, 0x25]
  | .slaAtHl => [0xCB, 0x26]
  | .slaA => [0xCB, 0x27]
  | .sraB => [0xCB, 0x28]
  | .sraC => [0xCB, 0x29]
  | .sraD => [0xCB, 0x2A]
  | .sraE => [0xCB, 0x2B]
  | .sraH => [0xCB, 0x2C]
  | .sraL => [0xCB, 0x2D]
  | .sraAtHl => [0xCB, 0x2E]
  | .sraA => [0xCB, 0x2F]
  | .swapB => [0xCB, 0x30]
  | .swapC => [0xCB, 0x31]
  | .swapD => [0xCB, 0x32]
  | .swapE => [0xCB, 0x33]
  | .swapH => [0xCB, 0x34]
  | .swapL => [0xCB, 0x35]
  | .swapAtHl => [0xCB, 0x36]
  | .swapA => [0xCB, 0x37]
  | .srlB => [0xCB, 0x38]
  | .srlC => [0xCB, 0x39]
  | .srlD => [0xCB, 0x3A]
  | .srlE => [0xCB, 0x3B]
  | .srlH => [0xCB, 0x3C]
  | .srlL => [0xCB, 0x3D]
  | .srlAtHl => [0xCB, 0x3E]
  | .srlA => [0xCB, 0x3F]
  | .bit0B => [0xCB, 0x40]
  | .bit0C => [0xCB, 0x41]
  | .bit0D => [0xCB, 0x42]
  | .bit0E => [0xCB, 0x43]
  | .bit0H => [0xCB, 0x44]
  | .bit0L => [0xCB, 0x45]
  | .bit0AtHl => [0xCB, 0x46]
  | .bit0A => [0xCB, 0x47]
  | .bit1B => [0xCB, 0x48]
  | .bit1C => [0xCB, 0x49]
  | .bit1D => [0xCB, 0x4A]
  | .bit1E => [0xCB, 0x4B]
  | .bit1H => [0xCB, 0x4C]
  | .bit1L => [0xCB, 0x4D]
  | .bit1AtHl => [0xCB, 0x4E]
  | .bit1A => [0xCB, 0x4F]
  | .bit2B => [0xCB, 0x50]
  | .bit2C => [0xCB, 0x51]
  | .bit2D => [0xCB, 0x52]
  | .bit2E => [0xCB, 0x53]
  | .bit2H => [0xCB, 0x54]
  | .bit2L => [0xCB, 0x55]
  | .bit2AtHl => [0xCB, 0x56]
  | .bit2A => [0xCB, 0x57]
  | .bit3B => [0xCB, 0x58]
  | .bit3C => [0xCB, 0x59]
  | .bit3D => [0xCB, 0x5A]
  | .bit3E => [0xCB, 0x5B]
  | .bit3H => [0xCB, 0x5C]
  | .bit3L => [0xCB, 0x5D]
  | .bit3AtHl => [0xCB, 0x5E]
  | .bit3A => [0xCB, 0x5F]
  | .bit4B => [0xCB, 0x60]
  | .bit4C => [0xCB, 0x61]
  | .bit4D => [0xCB, 0x62]
  | .bit4E => [0xCB, 0x63]
  | .bit4H => [0xCB, 0x64]
  | .bit4L => [0xCB, 0x65]
  | .bit4AtHl => [0xCB, 0x66]
  | .bit4A => [0xCB, 0x67]
  | .bit5B => [0xCB, 0x68]
  | .bit5C => [0xCB, 0x69]
  | .bit5D => [0xCB, 0x6A]
  | .bit5E => [0xCB, 0x6B]
  | .bit5H => [0xCB, 0x6C]
  | .bit5L => [0xCB, 0x6D]
  | .bit5AtHl => [0xCB, 0x6E]
  | .bit5A => [0xCB, 0x6F]
  | .bit6B => [0xCB, 0x70]
  | .bit6C => [0xCB, 0x71]
  | .bit6D => [0xCB, 0x72]
  | .bit6E => [0xCB, 0x73]
  | .bit6H => [0xCB, 0x74]
  | .bit6L => [0xCB, 0x75]
  | .bit6AtHl => [0xCB, 0x76]
  | .bit6A => [0xCB, 0x77]
  | .bit7B => [0xCB, 0x78]
  | .bit7C => [0xCB, 0x79]
  | .bit7D => [0xCB, 0x7A]
  | .bit7E => [0xCB, 0x7B]
  | .bit7H => [0xCB, 0x7C]
  | .bit7L => [0xCB, 0x7D]
  | .bit7AtHl => [0xCB, 0x7E]
  | .bit7A => [0xCB, 0x7F]
  | .res0B => [0xCB, 0x80]
  | .res0C => [0xCB, 0x81]
  | .res0D => [0xCB, 0x82]
  | .res0E => [0xCB, 0x83]
  | .res0H => [0xCB, 0x84]
  | .res0L => [0xCB, 0x85]
  | .res0AtHl => [0xCB, 0x86]
  | .res0A => [0xCB, 0x87]
  | .res1B => [0xCB, 0x88]
  | .res1C => [0xCB, 0x89]
  | .res1D => [0xCB, 0x8A]
  | .res1E => [0xCB, 0x8B]
  | .res1H => [0xCB, 0x8C]
  | .res1L => [0xCB, 0x8D]
  | .res1AtHl => [0xCB, 0x8E]
  | .res1A => [0xCB, 0x8F]
  | .res2B => [0xCB, 0x90]
  | .res2C => [0xCB, 0x91]
  | .res2D => [0xCB, 0x92]
  | .res2E => [0xCB, 0x93]
  | .res2H => [0xCB, 0x94]
  | .res2L => [0xCB, 0x95]
  | .res2AtHl => [0xCB, 0x96]
  | .res2A => [0xCB, 0x97]
  | .res3B => [0xCB, 0x98]
  | .res3C => [0xCB, 0x99]
  | .res3D => [0xCB, 0x9A]
  | .res3E => [0xCB, 0x9B]
  | .res3H => [0xCB, 0x9C]
  | .res3L => [0xCB, 0x9D]
  | .res3AtHl => [0xCB, 0x9E]
  | .res3A => [0xCB, 0x9F]
  | .res4B => [0xCB, 0xA0]
  | .res4C => [0xCB, 0xA1]
  | .res4D => [0xCB, 0xA2]
  | .res4E => [0xCB, 0xA3]
  | .res4H => [0xCB, 0xA4]
  | .res4L => [0xCB, 0xA5]
  | .res4AtHl => [0xCB, 0xA6]
  | .res4A => [0xCB, 0xA7]
  | .res5B => [0xCB, 0xA8]
  | .res5C => [0xCB, 0xA9]
  | .res5D => [0xCB, 0xAA]
  | .res5E => [0xCB, 0xAB]
  | .res5H => [0xCB, 0xAC]
  | .res5L => [0xCB, 0xAD]
  | .res5AtHl => [0xCB, 0xAE]
  | .res5A => [0xCB, 0xAF]
  | .res6B => [0xCB, 0xB0]
  | .res6C => [0xCB, 0xB1]
  | .res6D => [0xCB, 0xB2]
  | .res6E => [0xCB, 0xB3]
  | .res6H => [0xCB, 0xB4]
  | .res6L => [0xCB, 0xB5]
  | .res6AtHl => [0xCB, 0xB6]
  | .res6A => [0xCB, 0xB7]
  | .res7B => [0xCB, 0xB8]
  | .res7C => [0xCB, 0xB9]
  | .res7D => [0xCB, 0xBA]
  | .res7E => [0xCB, 0xBB]
  | .res7H => [0xCB, 0xBC]
  | .res7L => [0xCB, 0xBD]
  | .res7AtHl => [0xCB, 0xBE]
  | .res7A => [0xCB, 0xBF]
  | .set0B => [0xCB, 0xC0]
  | .set0C => [0xCB, 0xC1]
  | .set0D => [0xCB, 0xC2]
  | .set0E => [0xCB, 0xC3]
  | .set0H => [0xCB, 0xC4]
  | .set0L => [0xCB, 0xC5]
  | .set0AtHl => [0xCB, 0xC6]
  | .set0A => [0xCB, 0xC7]
  | .set1B => [0xCB, 0xC8]
  | .set1C => [0xCB, 0xC9]
  | .set1D => [0xCB, 0xCA]
  | .set1E => [0xCB, 0xCB]
  | .set1H => [0xCB, 0xCC]
  | .set1L => [0xCB, 0xCD]
  | .set1AtHl => [0xCB, 0xCE]
  | .set1A => [0xCB, 0xCF]
  | .set2B => [0xCB, 0xD0]
  | .set2C => [0xCB, 0xD1]
  | .set2D => [0xCB, 0xD2]
  | .set2E => [0xCB, 0xD3]
  | .set2H => [0xCB, 0xD4]
  | .set2L => [0xCB, 0xD5]
  | .set2AtHl => [0xCB, 0xD6]
  | .set2A => [0xCB, 0xD7]
  | .set3B => [0xCB, 0xD8]
  | .set3C => [0xCB, 0xD9]
  | .set3D => [0xCB, 0xDA]
  | .set3E => [0xCB, 0xDB]
  | .set3H => [0xCB, 0xDC]
  | .set3L => [0xCB, 0xDD]
  | .set3AtHl => [0xCB, 0xDE]
  | .set3A => [0xCB, 0xDF]
  | .set4B => [0xCB, 0xE0]
  | .set4C => [0xCB, 0xE1]
  | .set4D => [0xCB, 0xE2]
  | .set4E => [0xCB, 0xE3]
  | .set4H => [0xCB, 0xE4]
  | .set4L => [0xCB, 0xE5]
  | .set4AtHl => [0xCB, 0xE6]
  | .set4A => [0xCB, 0xE7]
  | .set5B => [0xCB, 0xE8]
  | .set5C => [0xCB, 0xE9]
  | .set5D => [0xCB, 0xEA]
  | .set5E => [0xCB, 0xEB]
  | .set5H => [0xCB, 0xEC]
  | .set5L => [0xCB, 0xED]
  | .set5AtHl => [0xCB, 0xEE]
  | .set5A => [0xCB, 0xEF]
  | .set6B => [0xCB, 0xF0]
  | .set6C => [0xCB, 0xF1]
  | .set6D => [0xCB, 0xF2]
  | .set6E => [0xCB, 0xF3]
  | .set6H => [0xCB, 0xF4]
  | .set6L => [0xCB, 0xF5]
  | .set6AtHl => [0xCB, 0xF6]
  | .set6A => [0xCB, 0xF7]
  | .set7B => [0xCB, 0xF8]
  | .set7C => [0xCB, 0xF9]
  | .set7D => [0xCB, 0xFA]
  | .set7E => [0xCB, 0xFB]
  | .set7H => [0xCB, 0xFC]
  | .set7L => [0xCB, 0xFD]
  | .set7AtHl => [0xCB, 0xFE]
  | .set7A => [0xCB, 0xFF]
  | .illegal op => [op]

/-! ### The descriptors (R83, R103) -/

/-- An instruction descriptor: the whole length in bytes, the duration in machine cycles (the taken count of a conditional
instruction), the not-taken count. The counts are absent for the slot `PREFIX CB` and the illegal opcodes. -/
structure Descriptor where
  length : Nat
  cycles : Option Nat
  cyclesNotTaken : Option Nat
  deriving DecidableEq, Repr

/-- The descriptor of each slot: the columns `length`, `cycles`, `cycles_not_taken` of opcode_table.json. -/
def Instr.descriptor (i : Instr) : Descriptor :=
  match i with
  | .nop => ⟨1, some 1, none⟩
  | .ldBcNn _ => ⟨3, some 3, none⟩
  | .ldAtBcA => ⟨1, some 2, none⟩
  | .incBc => ⟨1, some 2, none⟩
  | .incB => ⟨1, some 1, none⟩
  | .decB => ⟨1, some 1, none⟩
  | .ldBN _ => ⟨2, some 2, none⟩
  | .rlca => ⟨1, some 1, none⟩
  | .ldAtNnSp _ => ⟨3, some 5, none⟩
  | .addHlBc => ⟨1, some 2, none⟩
  | .ldAAtBc => ⟨1, some 2, none⟩
  | .decBc => ⟨1, some 2, none⟩
  | .incC => ⟨1, some 1, none⟩
  | .decC => ⟨1, some 1, none⟩
  | .ldCN _ => ⟨2, some 2, none⟩
  | .rrca => ⟨1, some 1, none⟩
  | .stop _ => ⟨2, some 1, none⟩
  | .ldDeNn _ => ⟨3, some 3, none⟩
  | .ldAtDeA => ⟨1, some 2, none⟩
  | .incDe => ⟨1, some 2, none⟩
  | .incD => ⟨1, some 1, none⟩
  | .decD => ⟨1, some 1, none⟩
  | .ldDN _ => ⟨2, some 2, none⟩
  | .rla => ⟨1, some 1, none⟩
  | .jrE _ => ⟨2, some 3, none⟩
  | .addHlDe => ⟨1, some 2, none⟩
  | .ldAAtDe => ⟨1, some 2, none⟩
  | .decDe => ⟨1, some 2, none⟩
  | .incE => ⟨1, some 1, none⟩
  | .decE => ⟨1, some 1, none⟩
  | .ldEN _ => ⟨2, some 2, none⟩
  | .rra => ⟨1, some 1, none⟩
  | .jrNzE _ => ⟨2, some 3, some 2⟩
  | .ldHlNn _ => ⟨3, some 3, none⟩
  | .ldAtHlIncA => ⟨1, some 2, none⟩
  | .incHl => ⟨1, some 2, none⟩
  | .incH => ⟨1, some 1, none⟩
  | .decH => ⟨1, some 1, none⟩
  | .ldHN _ => ⟨2, some 2, none⟩
  | .daa => ⟨1, some 1, none⟩
  | .jrZE _ => ⟨2, some 3, some 2⟩
  | .addHlHl => ⟨1, some 2, none⟩
  | .ldAAtHlInc => ⟨1, some 2, none⟩
  | .decHl => ⟨1, some 2, none⟩
  | .incL => ⟨1, some 1, none⟩
  | .decL => ⟨1, some 1, none⟩
  | .ldLN _ => ⟨2, some 2, none⟩
  | .cpl => ⟨1, some 1, none⟩
  | .jrNcE _ => ⟨2, some 3, some 2⟩
  | .ldSpNn _ => ⟨3, some 3, none⟩
  | .ldAtHlDecA => ⟨1, some 2, none⟩
  | .incSp => ⟨1, some 2, none⟩
  | .incAtHl => ⟨1, some 3, none⟩
  | .decAtHl => ⟨1, some 3, none⟩
  | .ldAtHlN _ => ⟨2, some 3, none⟩
  | .scf => ⟨1, some 1, none⟩
  | .jrCE _ => ⟨2, some 3, some 2⟩
  | .addHlSp => ⟨1, some 2, none⟩
  | .ldAAtHlDec => ⟨1, some 2, none⟩
  | .decSp => ⟨1, some 2, none⟩
  | .incA => ⟨1, some 1, none⟩
  | .decA => ⟨1, some 1, none⟩
  | .ldAN _ => ⟨2, some 2, none⟩
  | .ccf => ⟨1, some 1, none⟩
  | .ldBB => ⟨1, some 1, none⟩
  | .ldBC => ⟨1, some 1, none⟩
  | .ldBD => ⟨1, some 1, none⟩
  | .ldBE => ⟨1, some 1, none⟩
  | .ldBH => ⟨1, some 1, none⟩
  | .ldBL => ⟨1, some 1, none⟩
  | .ldBAtHl => ⟨1, some 2, none⟩
  | .ldBA => ⟨1, some 1, none⟩
  | .ldCB => ⟨1, some 1, none⟩
  | .ldCC => ⟨1, some 1, none⟩
  | .ldCD => ⟨1, some 1, none⟩
  | .ldCE => ⟨1, some 1, none⟩
  | .ldCH => ⟨1, some 1, none⟩
  | .ldCL => ⟨1, some 1, none⟩
  | .ldCAtHl => ⟨1, some 2, none⟩
  | .ldCA => ⟨1, some 1, none⟩
  | .ldDB => ⟨1, some 1, none⟩
  | .ldDC => ⟨1, some 1, none⟩
  | .ldDD => ⟨1, some 1, none⟩
  | .ldDE => ⟨1, some 1, none⟩
  | .ldDH => ⟨1, some 1, none⟩
  | .ldDL => ⟨1, some 1, none⟩
  | .ldDAtHl => ⟨1, some 2, none⟩
  | .ldDA => ⟨1, some 1, none⟩
  | .ldEB => ⟨1, some 1, none⟩
  | .ldEC => ⟨1, some 1, none⟩
  | .ldED => ⟨1, some 1, none⟩
  | .ldEE => ⟨1, some 1, none⟩
  | .ldEH => ⟨1, some 1, none⟩
  | .ldEL => ⟨1, some 1, none⟩
  | .ldEAtHl => ⟨1, some 2, none⟩
  | .ldEA => ⟨1, some 1, none⟩
  | .ldHB => ⟨1, some 1, none⟩
  | .ldHC => ⟨1, some 1, none⟩
  | .ldHD => ⟨1, some 1, none⟩
  | .ldHE => ⟨1, some 1, none⟩
  | .ldHH => ⟨1, some 1, none⟩
  | .ldHL => ⟨1, some 1, none⟩
  | .ldHAtHl => ⟨1, some 2, none⟩
  | .ldHA => ⟨1, some 1, none⟩
  | .ldLB => ⟨1, some 1, none⟩
  | .ldLC => ⟨1, some 1, none⟩
  | .ldLD => ⟨1, some 1, none⟩
  | .ldLE => ⟨1, some 1, none⟩
  | .ldLH => ⟨1, some 1, none⟩
  | .ldLL => ⟨1, some 1, none⟩
  | .ldLAtHl => ⟨1, some 2, none⟩
  | .ldLA => ⟨1, some 1, none⟩
  | .ldAtHlB => ⟨1, some 2, none⟩
  | .ldAtHlC => ⟨1, some 2, none⟩
  | .ldAtHlD => ⟨1, some 2, none⟩
  | .ldAtHlE => ⟨1, some 2, none⟩
  | .ldAtHlH => ⟨1, some 2, none⟩
  | .ldAtHlL => ⟨1, some 2, none⟩
  | .halt => ⟨1, some 1, none⟩
  | .ldAtHlA => ⟨1, some 2, none⟩
  | .ldAB => ⟨1, some 1, none⟩
  | .ldAC => ⟨1, some 1, none⟩
  | .ldAD => ⟨1, some 1, none⟩
  | .ldAE => ⟨1, some 1, none⟩
  | .ldAH => ⟨1, some 1, none⟩
  | .ldAL => ⟨1, some 1, none⟩
  | .ldAAtHl => ⟨1, some 2, none⟩
  | .ldAA => ⟨1, some 1, none⟩
  | .addAB => ⟨1, some 1, none⟩
  | .addAC => ⟨1, some 1, none⟩
  | .addAD => ⟨1, some 1, none⟩
  | .addAE => ⟨1, some 1, none⟩
  | .addAH => ⟨1, some 1, none⟩
  | .addAL => ⟨1, some 1, none⟩
  | .addAAtHl => ⟨1, some 2, none⟩
  | .addAA => ⟨1, some 1, none⟩
  | .adcAB => ⟨1, some 1, none⟩
  | .adcAC => ⟨1, some 1, none⟩
  | .adcAD => ⟨1, some 1, none⟩
  | .adcAE => ⟨1, some 1, none⟩
  | .adcAH => ⟨1, some 1, none⟩
  | .adcAL => ⟨1, some 1, none⟩
  | .adcAAtHl => ⟨1, some 2, none⟩
  | .adcAA => ⟨1, some 1, none⟩
  | .subB => ⟨1, some 1, none⟩
  | .subC => ⟨1, some 1, none⟩
  | .subD => ⟨1, some 1, none⟩
  | .subE => ⟨1, some 1, none⟩
  | .subH => ⟨1, some 1, none⟩
  | .subL => ⟨1, some 1, none⟩
  | .subAtHl => ⟨1, some 2, none⟩
  | .subA => ⟨1, some 1, none⟩
  | .sbcAB => ⟨1, some 1, none⟩
  | .sbcAC => ⟨1, some 1, none⟩
  | .sbcAD => ⟨1, some 1, none⟩
  | .sbcAE => ⟨1, some 1, none⟩
  | .sbcAH => ⟨1, some 1, none⟩
  | .sbcAL => ⟨1, some 1, none⟩
  | .sbcAAtHl => ⟨1, some 2, none⟩
  | .sbcAA => ⟨1, some 1, none⟩
  | .andB => ⟨1, some 1, none⟩
  | .andC => ⟨1, some 1, none⟩
  | .andD => ⟨1, some 1, none⟩
  | .andE => ⟨1, some 1, none⟩
  | .andH => ⟨1, some 1, none⟩
  | .andL => ⟨1, some 1, none⟩
  | .andAtHl => ⟨1, some 2, none⟩
  | .andA => ⟨1, some 1, none⟩
  | .xorB => ⟨1, some 1, none⟩
  | .xorC => ⟨1, some 1, none⟩
  | .xorD => ⟨1, some 1, none⟩
  | .xorE => ⟨1, some 1, none⟩
  | .xorH => ⟨1, some 1, none⟩
  | .xorL => ⟨1, some 1, none⟩
  | .xorAtHl => ⟨1, some 2, none⟩
  | .xorA => ⟨1, some 1, none⟩
  | .orB => ⟨1, some 1, none⟩
  | .orC => ⟨1, some 1, none⟩
  | .orD => ⟨1, some 1, none⟩
  | .orE => ⟨1, some 1, none⟩
  | .orH => ⟨1, some 1, none⟩
  | .orL => ⟨1, some 1, none⟩
  | .orAtHl => ⟨1, some 2, none⟩
  | .orA => ⟨1, some 1, none⟩
  | .cpB => ⟨1, some 1, none⟩
  | .cpC => ⟨1, some 1, none⟩
  | .cpD => ⟨1, some 1, none⟩
  | .cpE => ⟨1, some 1, none⟩
  | .cpH => ⟨1, some 1, none⟩
  | .cpL => ⟨1, some 1, none⟩
  | .cpAtHl => ⟨1, some 2, none⟩
  | .cpA => ⟨1, some 1, none⟩
  | .retNz => ⟨1, some 5, some 2⟩
  | .popBc => ⟨1, some 3, none⟩
  | .jpNzNn _ => ⟨3, some 4, some 3⟩
  | .jpNn _ => ⟨3, some 4, none⟩
  | .callNzNn _ => ⟨3, some 6, some 3⟩
  | .pushBc => ⟨1, some 4, none⟩
  | .addAN _ => ⟨2, some 2, none⟩
  | .rst00 => ⟨1, some 4, none⟩
  | .retZ => ⟨1, some 5, some 2⟩
  | .ret => ⟨1, some 4, none⟩
  | .jpZNn _ => ⟨3, some 4, some 3⟩
  | .prefixCb => ⟨1, none, none⟩
  | .callZNn _ => ⟨3, some 6, some 3⟩
  | .callNn _ => ⟨3, some 6, none⟩
  | .adcAN _ => ⟨2, some 2, none⟩
  | .rst08 => ⟨1, some 4, none⟩
  | .retNc => ⟨1, some 5, some 2⟩
  | .popDe => ⟨1, some 3, none⟩
  | .jpNcNn _ => ⟨3, some 4, some 3⟩
  | .callNcNn _ => ⟨3, some 6, some 3⟩
  | .pushDe => ⟨1, some 4, none⟩
  | .subN _ => ⟨2, some 2, none⟩
  | .rst10 => ⟨1, some 4, none⟩
  | .retC => ⟨1, some 5, some 2⟩
  | .reti => ⟨1, some 4, none⟩
  | .jpCNn _ => ⟨3, some 4, some 3⟩
  | .callCNn _ => ⟨3, some 6, some 3⟩
  | .sbcAN _ => ⟨2, some 2, none⟩
  | .rst18 => ⟨1, some 4, none⟩
  | .ldhAtNA _ => ⟨2, some 3, none⟩
  | .popHl => ⟨1, some 3, none⟩
  | .ldhAtCA => ⟨1, some 2, none⟩
  | .pushHl => ⟨1, some 4, none⟩
  | .andN _ => ⟨2, some 2, none⟩
  | .rst20 => ⟨1, some 4, none⟩
  | .addSpE _ => ⟨2, some 4, none⟩
  | .jpHl => ⟨1, some 1, none⟩
  | .ldAtNnA _ => ⟨3, some 4, none⟩
  | .xorN _ => ⟨2, some 2, none⟩
  | .rst28 => ⟨1, some 4, none⟩
  | .ldhAAtN _ => ⟨2, some 3, none⟩
  | .popAf => ⟨1, some 3, none⟩
  | .ldhAAtC => ⟨1, some 2, none⟩
  | .di => ⟨1, some 1, none⟩
  | .pushAf => ⟨1, some 4, none⟩
  | .orN _ => ⟨2, some 2, none⟩
  | .rst30 => ⟨1, some 4, none⟩
  | .ldHlSpE _ => ⟨2, some 3, none⟩
  | .ldSpHl => ⟨1, some 2, none⟩
  | .ldAAtNn _ => ⟨3, some 4, none⟩
  | .ei => ⟨1, some 1, none⟩
  | .cpN _ => ⟨2, some 2, none⟩
  | .rst38 => ⟨1, some 4, none⟩
  | .rlcB => ⟨2, some 2, none⟩
  | .rlcC => ⟨2, some 2, none⟩
  | .rlcD => ⟨2, some 2, none⟩
  | .rlcE => ⟨2, some 2, none⟩
  | .rlcH => ⟨2, some 2, none⟩
  | .rlcL => ⟨2, some 2, none⟩
  | .rlcAtHl => ⟨2, some 4, none⟩
  | .rlcA => ⟨2, some 2, none⟩
  | .rrcB => ⟨2, some 2, none⟩
  | .rrcC => ⟨2, some 2, none⟩
  | .rrcD => ⟨2, some 2, none⟩
  | .rrcE => ⟨2, some 2, none⟩
  | .rrcH => ⟨2, some 2, none⟩
  | .rrcL => ⟨2, some 2, none⟩
  | .rrcAtHl => ⟨2, some 4, none⟩
  | .rrcA => ⟨2, some 2, none⟩
  | .rlB => ⟨2, some 2, none⟩
  | .rlC => ⟨2, some 2, none⟩
  | .rlD => ⟨2, some 2, none⟩
  | .rlE => ⟨2, some 2, none⟩
  | .rlH => ⟨2, some 2, none⟩
  | .rlL => ⟨2, some 2, none⟩
  | .rlAtHl => ⟨2, some 4, none⟩
  | .rlA => ⟨2, some 2, none⟩
  | .rrB => ⟨2, some 2, none⟩
  | .rrC => ⟨2, some 2, none⟩
  | .rrD => ⟨2, some 2, none⟩
  | .rrE => ⟨2, some 2, none⟩
  | .rrH => ⟨2, some 2, none⟩
  | .rrL => ⟨2, some 2, none⟩
  | .rrAtHl => ⟨2, some 4, none⟩
  | .rrA => ⟨2, some 2, none⟩
  | .slaB => ⟨2, some 2, none⟩
  | .slaC => ⟨2, some 2, none⟩
  | .slaD => ⟨2, some 2, none⟩
  | .slaE => ⟨2, some 2, none⟩
  | .slaH => ⟨2, some 2, none⟩
  | .slaL => ⟨2, some 2, none⟩
  | .slaAtHl => ⟨2, some 4, none⟩
  | .slaA => ⟨2, some 2, none⟩
  | .sraB => ⟨2, some 2, none⟩
  | .sraC => ⟨2, some 2, none⟩
  | .sraD => ⟨2, some 2, none⟩
  | .sraE => ⟨2, some 2, none⟩
  | .sraH => ⟨2, some 2, none⟩
  | .sraL => ⟨2, some 2, none⟩
  | .sraAtHl => ⟨2, some 4, none⟩
  | .sraA => ⟨2, some 2, none⟩
  | .swapB => ⟨2, some 2, none⟩
  | .swapC => ⟨2, some 2, none⟩
  | .swapD => ⟨2, some 2, none⟩
  | .swapE => ⟨2, some 2, none⟩
  | .swapH => ⟨2, some 2, none⟩
  | .swapL => ⟨2, some 2, none⟩
  | .swapAtHl => ⟨2, some 4, none⟩
  | .swapA => ⟨2, some 2, none⟩
  | .srlB => ⟨2, some 2, none⟩
  | .srlC => ⟨2, some 2, none⟩
  | .srlD => ⟨2, some 2, none⟩
  | .srlE => ⟨2, some 2, none⟩
  | .srlH => ⟨2, some 2, none⟩
  | .srlL => ⟨2, some 2, none⟩
  | .srlAtHl => ⟨2, some 4, none⟩
  | .srlA => ⟨2, some 2, none⟩
  | .bit0B => ⟨2, some 2, none⟩
  | .bit0C => ⟨2, some 2, none⟩
  | .bit0D => ⟨2, some 2, none⟩
  | .bit0E => ⟨2, some 2, none⟩
  | .bit0H => ⟨2, some 2, none⟩
  | .bit0L => ⟨2, some 2, none⟩
  | .bit0AtHl => ⟨2, some 3, none⟩
  | .bit0A => ⟨2, some 2, none⟩
  | .bit1B => ⟨2, some 2, none⟩
  | .bit1C => ⟨2, some 2, none⟩
  | .bit1D => ⟨2, some 2, none⟩
  | .bit1E => ⟨2, some 2, none⟩
  | .bit1H => ⟨2, some 2, none⟩
  | .bit1L => ⟨2, some 2, none⟩
  | .bit1AtHl => ⟨2, some 3, none⟩
  | .bit1A => ⟨2, some 2, none⟩
  | .bit2B => ⟨2, some 2, none⟩
  | .bit2C => ⟨2, some 2, none⟩
  | .bit2D => ⟨2, some 2, none⟩
  | .bit2E => ⟨2, some 2, none⟩
  | .bit2H => ⟨2, some 2, none⟩
  | .bit2L => ⟨2, some 2, none⟩
  | .bit2AtHl => ⟨2, some 3, none⟩
  | .bit2A => ⟨2, some 2, none⟩
  | .bit3B => ⟨2, some 2, none⟩
  | .bit3C => ⟨2, some 2, none⟩
  | .bit3D => ⟨2, some 2, none⟩
  | .bit3E => ⟨2, some 2, none⟩
  | .bit3H => ⟨2, some 2, none⟩
  | .bit3L => ⟨2, some 2, none⟩
  | .bit3AtHl => ⟨2, some 3, none⟩
  | .bit3A => ⟨2, some 2, none⟩
  | .bit4B => ⟨2, some 2, none⟩
  | .bit4C => ⟨2, some 2, none⟩
  | .bit4D => ⟨2, some 2, none⟩
  | .bit4E => ⟨2, some 2, none⟩
  | .bit4H => ⟨2, some 2, none⟩
  | .bit4L => ⟨2, some 2, none⟩
  | .bit4AtHl => ⟨2, some 3, none⟩
  | .bit4A => ⟨2, some 2, none⟩
  | .bit5B => ⟨2, some 2, none⟩
  | .bit5C => ⟨2, some 2, none⟩
  | .bit5D => ⟨2, some 2, none⟩
  | .bit5E => ⟨2, some 2, none⟩
  | .bit5H => ⟨2, some 2, none⟩
  | .bit5L => ⟨2, some 2, none⟩
  | .bit5AtHl => ⟨2, some 3, none⟩
  | .bit5A => ⟨2, some 2, none⟩
  | .bit6B => ⟨2, some 2, none⟩
  | .bit6C => ⟨2, some 2, none⟩
  | .bit6D => ⟨2, some 2, none⟩
  | .bit6E => ⟨2, some 2, none⟩
  | .bit6H => ⟨2, some 2, none⟩
  | .bit6L => ⟨2, some 2, none⟩
  | .bit6AtHl => ⟨2, some 3, none⟩
  | .bit6A => ⟨2, some 2, none⟩
  | .bit7B => ⟨2, some 2, none⟩
  | .bit7C => ⟨2, some 2, none⟩
  | .bit7D => ⟨2, some 2, none⟩
  | .bit7E => ⟨2, some 2, none⟩
  | .bit7H => ⟨2, some 2, none⟩
  | .bit7L => ⟨2, some 2, none⟩
  | .bit7AtHl => ⟨2, some 3, none⟩
  | .bit7A => ⟨2, some 2, none⟩
  | .res0B => ⟨2, some 2, none⟩
  | .res0C => ⟨2, some 2, none⟩
  | .res0D => ⟨2, some 2, none⟩
  | .res0E => ⟨2, some 2, none⟩
  | .res0H => ⟨2, some 2, none⟩
  | .res0L => ⟨2, some 2, none⟩
  | .res0AtHl => ⟨2, some 4, none⟩
  | .res0A => ⟨2, some 2, none⟩
  | .res1B => ⟨2, some 2, none⟩
  | .res1C => ⟨2, some 2, none⟩
  | .res1D => ⟨2, some 2, none⟩
  | .res1E => ⟨2, some 2, none⟩
  | .res1H => ⟨2, some 2, none⟩
  | .res1L => ⟨2, some 2, none⟩
  | .res1AtHl => ⟨2, some 4, none⟩
  | .res1A => ⟨2, some 2, none⟩
  | .res2B => ⟨2, some 2, none⟩
  | .res2C => ⟨2, some 2, none⟩
  | .res2D => ⟨2, some 2, none⟩
  | .res2E => ⟨2, some 2, none⟩
  | .res2H => ⟨2, some 2, none⟩
  | .res2L => ⟨2, some 2, none⟩
  | .res2AtHl => ⟨2, some 4, none⟩
  | .res2A => ⟨2, some 2, none⟩
  | .res3B => ⟨2, some 2, none⟩
  | .res3C => ⟨2, some 2, none⟩
  | .res3D => ⟨2, some 2, none⟩
  | .res3E => ⟨2, some 2, none⟩
  | .res3H => ⟨2, some 2, none⟩
  | .res3L => ⟨2, some 2, none⟩
  | .res3AtHl => ⟨2, some 4, none⟩
  | .res3A => ⟨2, some 2, none⟩
  | .res4B => ⟨2, some 2, none⟩
  | .res4C => ⟨2, some 2, none⟩
  | .res4D => ⟨2, some 2, none⟩
  | .res4E => ⟨2, some 2, none⟩
  | .res4H => ⟨2, some 2, none⟩
  | .res4L => ⟨2, some 2, none⟩
  | .res4AtHl => ⟨2, some 4, none⟩
  | .res4A => ⟨2, some 2, none⟩
  | .res5B => ⟨2, some 2, none⟩
  | .res5C => ⟨2, some 2, none⟩
  | .res5D => ⟨2, some 2, none⟩
  | .res5E => ⟨2, some 2, none⟩
  | .res5H => ⟨2, some 2, none⟩
  | .res5L => ⟨2, some 2, none⟩
  | .res5AtHl => ⟨2, some 4, none⟩
  | .res5A => ⟨2, some 2, none⟩
  | .res6B => ⟨2, some 2, none⟩
  | .res6C => ⟨2, some 2, none⟩
  | .res6D => ⟨2, some 2, none⟩
  | .res6E => ⟨2, some 2, none⟩
  | .res6H => ⟨2, some 2, none⟩
  | .res6L => ⟨2, some 2, none⟩
  | .res6AtHl => ⟨2, some 4, none⟩
  | .res6A => ⟨2, some 2, none⟩
  | .res7B => ⟨2, some 2, none⟩
  | .res7C => ⟨2, some 2, none⟩
  | .res7D => ⟨2, some 2, none⟩
  | .res7E => ⟨2, some 2, none⟩
  | .res7H => ⟨2, some 2, none⟩
  | .res7L => ⟨2, some 2, none⟩
  | .res7AtHl => ⟨2, some 4, none⟩
  | .res7A => ⟨2, some 2, none⟩
  | .set0B => ⟨2, some 2, none⟩
  | .set0C => ⟨2, some 2, none⟩
  | .set0D => ⟨2, some 2, none⟩
  | .set0E => ⟨2, some 2, none⟩
  | .set0H => ⟨2, some 2, none⟩
  | .set0L => ⟨2, some 2, none⟩
  | .set0AtHl => ⟨2, some 4, none⟩
  | .set0A => ⟨2, some 2, none⟩
  | .set1B => ⟨2, some 2, none⟩
  | .set1C => ⟨2, some 2, none⟩
  | .set1D => ⟨2, some 2, none⟩
  | .set1E => ⟨2, some 2, none⟩
  | .set1H => ⟨2, some 2, none⟩
  | .set1L => ⟨2, some 2, none⟩
  | .set1AtHl => ⟨2, some 4, none⟩
  | .set1A => ⟨2, some 2, none⟩
  | .set2B => ⟨2, some 2, none⟩
  | .set2C => ⟨2, some 2, none⟩
  | .set2D => ⟨2, some 2, none⟩
  | .set2E => ⟨2, some 2, none⟩
  | .set2H => ⟨2, some 2, none⟩
  | .set2L => ⟨2, some 2, none⟩
  | .set2AtHl => ⟨2, some 4, none⟩
  | .set2A => ⟨2, some 2, none⟩
  | .set3B => ⟨2, some 2, none⟩
  | .set3C => ⟨2, some 2, none⟩
  | .set3D => ⟨2, some 2, none⟩
  | .set3E => ⟨2, some 2, none⟩
  | .set3H => ⟨2, some 2, none⟩
  | .set3L => ⟨2, some 2, none⟩
  | .set3AtHl => ⟨2, some 4, none⟩
  | .set3A => ⟨2, some 2, none⟩
  | .set4B => ⟨2, some 2, none⟩
  | .set4C => ⟨2, some 2, none⟩
  | .set4D => ⟨2, some 2, none⟩
  | .set4E => ⟨2, some 2, none⟩
  | .set4H => ⟨2, some 2, none⟩
  | .set4L => ⟨2, some 2, none⟩
  | .set4AtHl => ⟨2, some 4, none⟩
  | .set4A => ⟨2, some 2, none⟩
  | .set5B => ⟨2, some 2, none⟩
  | .set5C => ⟨2, some 2, none⟩
  | .set5D => ⟨2, some 2, none⟩
  | .set5E => ⟨2, some 2, none⟩
  | .set5H => ⟨2, some 2, none⟩
  | .set5L => ⟨2, some 2, none⟩
  | .set5AtHl => ⟨2, some 4, none⟩
  | .set5A => ⟨2, some 2, none⟩
  | .set6B => ⟨2, some 2, none⟩
  | .set6C => ⟨2, some 2, none⟩
  | .set6D => ⟨2, some 2, none⟩
  | .set6E => ⟨2, some 2, none⟩
  | .set6H => ⟨2, some 2, none⟩
  | .set6L => ⟨2, some 2, none⟩
  | .set6AtHl => ⟨2, some 4, none⟩
  | .set6A => ⟨2, some 2, none⟩
  | .set7B => ⟨2, some 2, none⟩
  | .set7C => ⟨2, some 2, none⟩
  | .set7D => ⟨2, some 2, none⟩
  | .set7E => ⟨2, some 2, none⟩
  | .set7H => ⟨2, some 2, none⟩
  | .set7L => ⟨2, some 2, none⟩
  | .set7AtHl => ⟨2, some 4, none⟩
  | .set7A => ⟨2, some 2, none⟩
  | .illegal _ => ⟨1, none, none⟩

/-! ### The instruction forms by operand code

The constructor that a form of 30_encoding.md R97 and R98 denotes for given operand codes; statements about a whole form
are written with these. -/

/-- `LD r,r'`: `01dddsss`. -/
def Instr.ldRegReg (dst r : Reg8) : Instr :=
  match dst, r with
  | .b, .b => .ldBB
  | .b, .c => .ldBC
  | .b, .d => .ldBD
  | .b, .e => .ldBE
  | .b, .h => .ldBH
  | .b, .l => .ldBL
  | .b, .a => .ldBA
  | .c, .b => .ldCB
  | .c, .c => .ldCC
  | .c, .d => .ldCD
  | .c, .e => .ldCE
  | .c, .h => .ldCH
  | .c, .l => .ldCL
  | .c, .a => .ldCA
  | .d, .b => .ldDB
  | .d, .c => .ldDC
  | .d, .d => .ldDD
  | .d, .e => .ldDE
  | .d, .h => .ldDH
  | .d, .l => .ldDL
  | .d, .a => .ldDA
  | .e, .b => .ldEB
  | .e, .c => .ldEC
  | .e, .d => .ldED
  | .e, .e => .ldEE
  | .e, .h => .ldEH
  | .e, .l => .ldEL
  | .e, .a => .ldEA
  | .h, .b => .ldHB
  | .h, .c => .ldHC
  | .h, .d => .ldHD
  | .h, .e => .ldHE
  | .h, .h => .ldHH
  | .h, .l => .ldHL
  | .h, .a => .ldHA
  | .l, .b => .ldLB
  | .l, .c => .ldLC
  | .l, .d => .ldLD
  | .l, .e => .ldLE
  | .l, .h => .ldLH
  | .l, .l => .ldLL
  | .l, .a => .ldLA
  | .a, .b => .ldAB
  | .a, .c => .ldAC
  | .a, .d => .ldAD
  | .a, .e => .ldAE
  | .a, .h => .ldAH
  | .a, .l => .ldAL
  | .a, .a => .ldAA

/-- `LD r,n`: `00ddd110`. -/
def Instr.ldRegImm (dst : Reg8) (n : Byte) : Instr :=
  match dst with
  | .b => .ldBN n
  | .c => .ldCN n
  | .d => .ldDN n
  | .e => .ldEN n
  | .h => .ldHN n
  | .l => .ldLN n
  | .a => .ldAN n

/-- `LD r,(HL)`: `01ddd110`. -/
def Instr.ldRegAtHl (dst : Reg8) : Instr :=
  match dst with
  | .b => .ldBAtHl
  | .c => .ldCAtHl
  | .d => .ldDAtHl
  | .e => .ldEAtHl
  | .h => .ldHAtHl
  | .l => .ldLAtHl
  | .a => .ldAAtHl

/-- `LD (HL),r`: `01110sss`. -/
def Instr.ldAtHlReg (r : Reg8) : Instr :=
  match r with
  | .b => .ldAtHlB
  | .c => .ldAtHlC
  | .d => .ldAtHlD
  | .e => .ldAtHlE
  | .h => .ldAtHlH
  | .l => .ldAtHlL
  | .a => .ldAtHlA

/-- `LD rr,nn`: `00pp0001`. -/
def Instr.ldPairImm (p : Pair16) (nn : Word) : Instr :=
  match p with
  | .bc => .ldBcNn nn
  | .de => .ldDeNn nn
  | .hl => .ldHlNn nn
  | .sp => .ldSpNn nn

/-- `ADD HL,rr`: `00pp1001`. -/
def Instr.addHlPair (p : Pair16) : Instr :=
  match p with
  | .bc => .addHlBc
  | .de => .addHlDe
  | .hl => .addHlHl
  | .sp => .addHlSp

/-- `INC rr`: `00pp0011`. -/
def Instr.incPair (p : Pair16) : Instr :=
  match p with
  | .bc => .incBc
  | .de => .incDe
  | .hl => .incHl
  | .sp => .incSp

/-- `DEC rr`: `00pp1011`. -/
def Instr.decPair (p : Pair16) : Instr :=
  match p with
  | .bc => .decBc
  | .de => .decDe
  | .hl => .decHl
  | .sp => .decSp

/-- `PUSH rr`: `11pp0101`. -/
def Instr.push (p : StackPair) : Instr :=
  match p with
  | .bc => .pushBc
  | .de => .pushDe
  | .hl => .pushHl
  | .af => .pushAf

/-- `POP rr` and `POP AF`: `11pp0001`. -/
def Instr.pop (p : StackPair) : Instr :=
  match p with
  | .bc => .popBc
  | .de => .popDe
  | .hl => .popHl
  | .af => .popAf

/-- `INC r`: `00ddd100`. -/
def Instr.incReg (r : Reg8) : Instr :=
  match r with
  | .b => .incB
  | .c => .incC
  | .d => .incD
  | .e => .incE
  | .h => .incH
  | .l => .incL
  | .a => .incA

/-- `DEC r`: `00ddd101`. -/
def Instr.decReg (r : Reg8) : Instr :=
  match r with
  | .b => .decB
  | .c => .decC
  | .d => .decD
  | .e => .decE
  | .h => .decH
  | .l => .decL
  | .a => .decA

/-- ALU `A,r`: `10aaasss`. -/
def Instr.aluReg (op : AluOp) (r : Reg8) : Instr :=
  match op, r with
  | .add, .b => .addAB
  | .add, .c => .addAC
  | .add, .d => .addAD
  | .add, .e => .addAE
  | .add, .h => .addAH
  | .add, .l => .addAL
  | .add, .a => .addAA
  | .adc, .b => .adcAB
  | .adc, .c => .adcAC
  | .adc, .d => .adcAD
  | .adc, .e => .adcAE
  | .adc, .h => .adcAH
  | .adc, .l => .adcAL
  | .adc, .a => .adcAA
  | .sub, .b => .subB
  | .sub, .c => .subC
  | .sub, .d => .subD
  | .sub, .e => .subE
  | .sub, .h => .subH
  | .sub, .l => .subL
  | .sub, .a => .subA
  | .sbc, .b => .sbcAB
  | .sbc, .c => .sbcAC
  | .sbc, .d => .sbcAD
  | .sbc, .e => .sbcAE
  | .sbc, .h => .sbcAH
  | .sbc, .l => .sbcAL
  | .sbc, .a => .sbcAA
  | .and, .b => .andB
  | .and, .c => .andC
  | .and, .d => .andD
  | .and, .e => .andE
  | .and, .h => .andH
  | .and, .l => .andL
  | .and, .a => .andA
  | .xor, .b => .xorB
  | .xor, .c => .xorC
  | .xor, .d => .xorD
  | .xor, .e => .xorE
  | .xor, .h => .xorH
  | .xor, .l => .xorL
  | .xor, .a => .xorA
  | .or, .b => .orB
  | .or, .c => .orC
  | .or, .d => .orD
  | .or, .e => .orE
  | .or, .h => .orH
  | .or, .l => .orL
  | .or, .a => .orA
  | .cp, .b => .cpB
  | .cp, .c => .cpC
  | .cp, .d => .cpD
  | .cp, .e => .cpE
  | .cp, .h => .cpH
  | .cp, .l => .cpL
  | .cp, .a => .cpA

/-- ALU `A,(HL)`: `10aaa110`. -/
def Instr.aluAtHl (op : AluOp) : Instr :=
  match op with
  | .add => .addAAtHl
  | .adc => .adcAAtHl
  | .sub => .subAtHl
  | .sbc => .sbcAAtHl
  | .and => .andAtHl
  | .xor => .xorAtHl
  | .or => .orAtHl
  | .cp => .cpAtHl

/-- ALU `A,n`: `11aaa110`. -/
def Instr.aluImm (op : AluOp) (n : Byte) : Instr :=
  match op with
  | .add => .addAN n
  | .adc => .adcAN n
  | .sub => .subN n
  | .sbc => .sbcAN n
  | .and => .andN n
  | .xor => .xorN n
  | .or => .orN n
  | .cp => .cpN n

/-- `JP cc,nn`: `110cc010`. -/
def Instr.jpCond (cc : Cond) (nn : Word) : Instr :=
  match cc with
  | .nz => .jpNzNn nn
  | .z => .jpZNn nn
  | .nc => .jpNcNn nn
  | .c => .jpCNn nn

/-- `JR cc,e`: `001cc000`. -/
def Instr.jrCond (cc : Cond) (e : Byte) : Instr :=
  match cc with
  | .nz => .jrNzE e
  | .z => .jrZE e
  | .nc => .jrNcE e
  | .c => .jrCE e

/-- `CALL cc,nn`: `110cc100`. -/
def Instr.callCond (cc : Cond) (nn : Word) : Instr :=
  match cc with
  | .nz => .callNzNn nn
  | .z => .callZNn nn
  | .nc => .callNcNn nn
  | .c => .callCNn nn

/-- `RET cc`: `110cc000`. -/
def Instr.retCond (cc : Cond) : Instr :=
  match cc with
  | .nz => .retNz
  | .z => .retZ
  | .nc => .retNc
  | .c => .retC

/-- `RST t`: `11ttt111`, target `t * 8`. -/
def Instr.rst (t : Fin 8) : Instr :=
  match t with
  | 0 => .rst00
  | 1 => .rst08
  | 2 => .rst10
  | 3 => .rst18
  | 4 => .rst20
  | 5 => .rst28
  | 6 => .rst30
  | 7 => .rst38

/-- CB rotate or shift of a register: `00yyyzzz`. -/
def Instr.rotReg (op : RotOp) (r : Reg8) : Instr :=
  match op, r with
  | .rlc, .b => .rlcB
  | .rlc, .c => .rlcC
  | .rlc, .d => .rlcD
  | .rlc, .e => .rlcE
  | .rlc, .h => .rlcH
  | .rlc, .l => .rlcL
  | .rlc, .a => .rlcA
  | .rrc, .b => .rrcB
  | .rrc, .c => .rrcC
  | .rrc, .d => .rrcD
  | .rrc, .e => .rrcE
  | .rrc, .h => .rrcH
  | .rrc, .l => .rrcL
  | .rrc, .a => .rrcA
  | .rl, .b => .rlB
  | .rl, .c => .rlC
  | .rl, .d => .rlD
  | .rl, .e => .rlE
  | .rl, .h => .rlH
  | .rl, .l => .rlL
  | .rl, .a => .rlA
  | .rr, .b => .rrB
  | .rr, .c => .rrC
  | .rr, .d => .rrD
  | .rr, .e => .rrE
  | .rr, .h => .rrH
  | .rr, .l => .rrL
  | .rr, .a => .rrA
  | .sla, .b => .slaB
  | .sla, .c => .slaC
  | .sla, .d => .slaD
  | .sla, .e => .slaE
  | .sla, .h => .slaH
  | .sla, .l => .slaL
  | .sla, .a => .slaA
  | .sra, .b => .sraB
  | .sra, .c => .sraC
  | .sra, .d => .sraD
  | .sra, .e => .sraE
  | .sra, .h => .sraH
  | .sra, .l => .sraL
  | .sra, .a => .sraA
  | .swap, .b => .swapB
  | .swap, .c => .swapC
  | .swap, .d => .swapD
  | .swap, .e => .swapE
  | .swap, .h => .swapH
  | .swap, .l => .swapL
  | .swap, .a => .swapA
  | .srl, .b => .srlB
  | .srl, .c => .srlC
  | .srl, .d => .srlD
  | .srl, .e => .srlE
  | .srl, .h => .srlH
  | .srl, .l => .srlL
  | .srl, .a => .srlA

/-- CB rotate or shift of the byte at `HL`: `00yyy110`. -/
def Instr.rotAtHl (op : RotOp) : Instr :=
  match op with
  | .rlc => .rlcAtHl
  | .rrc => .rrcAtHl
  | .rl => .rlAtHl
  | .rr => .rrAtHl
  | .sla => .slaAtHl
  | .sra => .sraAtHl
  | .swap => .swapAtHl
  | .srl => .srlAtHl

/-- `BIT b,r`. -/
def Instr.bitReg (b : Fin 8) (r : Reg8) : Instr :=
  match b, r with
  | 0, .b => .bit0B
  | 0, .c => .bit0C
  | 0, .d => .bit0D
  | 0, .e => .bit0E
  | 0, .h => .bit0H
  | 0, .l => .bit0L
  | 0, .a => .bit0A
  | 1, .b => .bit1B
  | 1, .c => .bit1C
  | 1, .d => .bit1D
  | 1, .e => .bit1E
  | 1, .h => .bit1H
  | 1, .l => .bit1L
  | 1, .a => .bit1A
  | 2, .b => .bit2B
  | 2, .c => .bit2C
  | 2, .d => .bit2D
  | 2, .e => .bit2E
  | 2, .h => .bit2H
  | 2, .l => .bit2L
  | 2, .a => .bit2A
  | 3, .b => .bit3B
  | 3, .c => .bit3C
  | 3, .d => .bit3D
  | 3, .e => .bit3E
  | 3, .h => .bit3H
  | 3, .l => .bit3L
  | 3, .a => .bit3A
  | 4, .b => .bit4B
  | 4, .c => .bit4C
  | 4, .d => .bit4D
  | 4, .e => .bit4E
  | 4, .h => .bit4H
  | 4, .l => .bit4L
  | 4, .a => .bit4A
  | 5, .b => .bit5B
  | 5, .c => .bit5C
  | 5, .d => .bit5D
  | 5, .e => .bit5E
  | 5, .h => .bit5H
  | 5, .l => .bit5L
  | 5, .a => .bit5A
  | 6, .b => .bit6B
  | 6, .c => .bit6C
  | 6, .d => .bit6D
  | 6, .e => .bit6E
  | 6, .h => .bit6H
  | 6, .l => .bit6L
  | 6, .a => .bit6A
  | 7, .b => .bit7B
  | 7, .c => .bit7C
  | 7, .d => .bit7D
  | 7, .e => .bit7E
  | 7, .h => .bit7H
  | 7, .l => .bit7L
  | 7, .a => .bit7A

/-- `BIT b,(HL)`. -/
def Instr.bitAtHl (b : Fin 8) : Instr :=
  match b with
  | 0 => .bit0AtHl
  | 1 => .bit1AtHl
  | 2 => .bit2AtHl
  | 3 => .bit3AtHl
  | 4 => .bit4AtHl
  | 5 => .bit5AtHl
  | 6 => .bit6AtHl
  | 7 => .bit7AtHl

/-- `RES b,r`. -/
def Instr.resReg (b : Fin 8) (r : Reg8) : Instr :=
  match b, r with
  | 0, .b => .res0B
  | 0, .c => .res0C
  | 0, .d => .res0D
  | 0, .e => .res0E
  | 0, .h => .res0H
  | 0, .l => .res0L
  | 0, .a => .res0A
  | 1, .b => .res1B
  | 1, .c => .res1C
  | 1, .d => .res1D
  | 1, .e => .res1E
  | 1, .h => .res1H
  | 1, .l => .res1L
  | 1, .a => .res1A
  | 2, .b => .res2B
  | 2, .c => .res2C
  | 2, .d => .res2D
  | 2, .e => .res2E
  | 2, .h => .res2H
  | 2, .l => .res2L
  | 2, .a => .res2A
  | 3, .b => .res3B
  | 3, .c => .res3C
  | 3, .d => .res3D
  | 3, .e => .res3E
  | 3, .h => .res3H
  | 3, .l => .res3L
  | 3, .a => .res3A
  | 4, .b => .res4B
  | 4, .c => .res4C
  | 4, .d => .res4D
  | 4, .e => .res4E
  | 4, .h => .res4H
  | 4, .l => .res4L
  | 4, .a => .res4A
  | 5, .b => .res5B
  | 5, .c => .res5C
  | 5, .d => .res5D
  | 5, .e => .res5E
  | 5, .h => .res5H
  | 5, .l => .res5L
  | 5, .a => .res5A
  | 6, .b => .res6B
  | 6, .c => .res6C
  | 6, .d => .res6D
  | 6, .e => .res6E
  | 6, .h => .res6H
  | 6, .l => .res6L
  | 6, .a => .res6A
  | 7, .b => .res7B
  | 7, .c => .res7C
  | 7, .d => .res7D
  | 7, .e => .res7E
  | 7, .h => .res7H
  | 7, .l => .res7L
  | 7, .a => .res7A

/-- `RES b,(HL)`. -/
def Instr.resAtHl (b : Fin 8) : Instr :=
  match b with
  | 0 => .res0AtHl
  | 1 => .res1AtHl
  | 2 => .res2AtHl
  | 3 => .res3AtHl
  | 4 => .res4AtHl
  | 5 => .res5AtHl
  | 6 => .res6AtHl
  | 7 => .res7AtHl

/-- `SET b,r`. -/
def Instr.setReg (b : Fin 8) (r : Reg8) : Instr :=
  match b, r with
  | 0, .b => .set0B
  | 0, .c => .set0C
  | 0, .d => .set0D
  | 0, .e => .set0E
  | 0, .h => .set0H
  | 0, .l => .set0L
  | 0, .a => .set0A
  | 1, .b => .set1B
  | 1, .c => .set1C
  | 1, .d => .set1D
  | 1, .e => .set1E
  | 1, .h => .set1H
  | 1, .l => .set1L
  | 1, .a => .set1A
  | 2, .b => .set2B
  | 2, .c => .set2C
  | 2, .d => .set2D
  | 2, .e => .set2E
  | 2, .h => .set2H
  | 2, .l => .set2L
  | 2, .a => .set2A
  | 3, .b => .set3B
  | 3, .c => .set3C
  | 3, .d => .set3D
  | 3, .e => .set3E
  | 3, .h => .set3H
  | 3, .l => .set3L
  | 3, .a => .set3A
  | 4, .b => .set4B
  | 4, .c => .set4C
  | 4, .d => .set4D
  | 4, .e => .set4E
  | 4, .h => .set4H
  | 4, .l => .set4L
  | 4, .a => .set4A
  | 5, .b => .set5B
  | 5, .c => .set5C
  | 5, .d => .set5D
  | 5, .e => .set5E
  | 5, .h => .set5H
  | 5, .l => .set5L
  | 5, .a => .set5A
  | 6, .b => .set6B
  | 6, .c => .set6C
  | 6, .d => .set6D
  | 6, .e => .set6E
  | 6, .h => .set6H
  | 6, .l => .set6L
  | 6, .a => .set6A
  | 7, .b => .set7B
  | 7, .c => .set7C
  | 7, .d => .set7D
  | 7, .e => .set7E
  | 7, .h => .set7H
  | 7, .l => .set7L
  | 7, .a => .set7A

/-- `SET b,(HL)`. -/
def Instr.setAtHl (b : Fin 8) : Instr :=
  match b with
  | 0 => .set0AtHl
  | 1 => .set1AtHl
  | 2 => .set2AtHl
  | 3 => .set3AtHl
  | 4 => .set4AtHl
  | 5 => .set5AtHl
  | 6 => .set6AtHl
  | 7 => .set7AtHl

/-! ### Words as opcode_table.json numbers them -/

/-- `k` bytes of a number, the least significant first. -/
def bytesOf : Nat → Nat → List Byte
  | 0, _ => []
  | k + 1, w => BitVec.ofNat 8 w :: bytesOf k (w / 256)

/-- The bytes, at ascending addresses, of a table word of `nbits` bits: one opcode byte, or the CB byte and the second
opcode byte. R103 writes a CB row's two bytes as one number with the first byte most significant (`0xCB00` to `0xCBFF`),
and that is how the table's rows number them (notes/assumptions/13.md). -/
def tableBytes (nbits w : Nat) : List Byte :=
  if nbits = 16 ∧ w / 256 = 0xCB then [cbByte, BitVec.ofNat 8 w] else bytesOf (nbits / 8) w

/-- The operand bytes that the table gives no bits, all zero. -/
def operandZeros (bytes : List Byte) : List Byte :=
  match bytes with
  | [op] => List.replicate (immediateOf op).size 0x00
  | _ => []

/-- The instruction that the decoder reads from a table word. -/
def decodeTableWord (nbits w : Nat) : Option Instr :=
  let bytes := tableBytes nbits w
  match decode (bytes ++ operandZeros bytes) with
  | .ok i _ => some i
  | .rejected _ => none

end Sys2Proof
end

