-- ==== Sys2Proof/Config.lean ====
section
/-! DEFINITION. The parameters of 00_scope.md R8: what the source leaves to the implementation. They are plain data
(a field of the state holds them and no step changes it, notes/assumptions/5.md), so that a statement about the
machine holds for every value of them. -/

namespace Sys2Proof

/-- The register values one reset mode loads (70_reset_and_hazards.md R361, R362). -/
structure ResetRegs where
  a : Byte
  f : Byte
  b : Byte
  c : Byte
  d : Byte
  e : Byte
  h : Byte
  l : Byte
  sp : Word
  deriving DecidableEq, Repr

/-- `BOOTSKIP_REGS` (R361, D18). -/
def ResetRegs.bootSkip : ResetRegs :=
  { a := 0x01, f := 0xB0, b := 0x00, c := 0x13, d := 0x00, e := 0xD8, h := 0x01, l := 0x4D, sp := 0xFFFE }

/-- The default of `POWER_ON_REGS`, an open parameter of the spec (R362, D19). DESIGN CHOICE: see
notes/assumptions/7.md. -/
def ResetRegs.powerOnDefault : ResetRegs :=
  { a := 0x00, f := 0x00, b := 0x00, c := 0x00, d := 0x00, e := 0x00, h := 0x00, l := 0x00, sp := 0x0000 }

/-- The parameters of R8, each with the value R8 takes as its default. -/
structure Config where
  /-- `HALT_BUG_IE_GATED` (D9, U10). -/
  haltBugIeGated : Bool := false
  /-- `INT_DISPATCH_CYCLES` (D6, U8). -/
  intDispatchCycles : Nat := 5
  /-- `STOP_STEP_CYCLES` (D12). -/
  stopStepCycles : Nat := 1
  /-- `CYCLES[0x10]`, the duration of the instruction `STOP` (46_cpu_control.md R292, U7). -/
  stopCycles : Nat := 1
  /-- `BOOTSKIP_REGS`. -/
  bootSkipRegs : ResetRegs := ResetRegs.bootSkip
  /-- `POWER_ON_REGS`. -/
  powerOnRegs : ResetRegs := ResetRegs.powerOnDefault
  deriving DecidableEq, Repr

/-- `RESET_MODE`, the argument of `reset(mode)` (R360). -/
inductive ResetMode where
  | bootSkip
  | powerOn
  deriving DecidableEq, Repr

end Sys2Proof
end

