-- ==== Sys2Proof/Machine/State.lean ====
section
/-! DEFINITION. The state of the core (10_state.md section 1), what a Step reports to its host (60_exceptions.md R310),
the plain store behind the bus, and the environment's inputs; the reasons a step can stop; the state after reset. -/

namespace Sys2Proof.Machine

/-- `run_state` (10_state.md R33). `interruptDispatch` is never its value when a Step begins or ends (D2, C7). -/
inductive RunState where
  | running
  | halted
  | stopped
  | interruptDispatch
  deriving DecidableEq, Repr

/-- One bus access of a Step with the byte that went over the bus (20_memory.md R51, R60). -/
inductive BusAccess where
  | read (addr : Word) (value : Byte)
  | write (addr : Word) (value : Byte)
  deriving DecidableEq, Repr

/-- What the plain store behind the bus holds: (address, byte) pairs in the canonical form `Memory.wf` (D29,
notes/assumptions/1.md). -/
abbrev Memory := List Host.Cell

/-- The machine's state. The first two groups are the spec's core state, the third what a Step gives its host, the
fourth the environment as the core sees it, the last the parameters. -/
@[ext]
structure State where
  /-- The accumulator (R20). -/
  a : Byte
  /-- The flags (R21): `Z`, `N`, `Hf`, `Cy` are bits 7, 6, 5, 4 (R24); read it with `State.readF`. -/
  f : Byte
  b : Byte
  c : Byte
  d : Byte
  e : Byte
  h : Byte
  l : Byte
  /-- The stack pointer (R28). -/
  sp : Word
  /-- The program counter (R27). -/
  pc : Word
  /-- Interrupt master enable (R29). -/
  ime : Bool
  /-- The latch of the `EI` delay (R31). -/
  imeSched : Bool
  /-- The halt-bug latch (R30). -/
  haltBug : Bool
  runState : RunState
  /-- Elapsed machine cycles (R34). -/
  cycleCount : Nat
  /-- The illegal-opcode latch (R35). -/
  fault : Option Word
  /-- The cycle count the last Step returned (R310, R327). -/
  stepCycles : Nat
  /-- The ordered list of bus accesses of the last Step (R310, R60). -/
  busAccesses : List BusAccess
  /-- What the plain store behind the bus holds. -/
  mem : Memory
  /-- The environment's answers to the coming reads, oldest first: `some v` answers `v`, `none` lets the store answer,
  and so does an empty list (R52, R379, notes/assumptions/3.md). -/
  busAnswers : List (Option Byte)
  /-- The input `stop_wake` of the coming Steps, oldest first; an empty list is `false` for ever (R322,
  notes/assumptions/4.md). -/
  stopWake : List Bool
  /-- The parameters of R8; no step changes them. -/
  config : Config
  deriving DecidableEq, Repr

/-- Why the machine stops. -/
inductive Fault where
  /-- Raised by `step` when the illegal-opcode latch holds `addr`: no Step is defined until reset (R35, R312, U14). Safe:
  the spec gives no successor. -/
  | illegalOpcode (addr : Word)
  /-- Raised by `step` in a state whose run state is `interruptDispatch`: the spec gives such a Step no behaviour (R33,
  C7). Safe: the spec gives no successor, and no Step ends so. -/
  | dispatchInProgress
  deriving DecidableEq, Repr

/-- Why an instruction has no meaning. -/
inductive Refusal where
  /-- Answered by an arm of `exec` for an instruction that has no meaning yet; no arm does so now. Safe: the machine stops. -/
  | notModelled (mnemonic : String)
  deriving DecidableEq, Repr

/-- The machine right after `reset(BootSkip)` (70_reset_and_hazards.md R361, R363), with nothing listed in the store,
no answer and no wake input supplied, and the parameters at the values R8 takes (notes/assumptions/6.md). -/
def State.reset : State :=
  { a := 0x01, f := 0xB0, b := 0x00, c := 0x13, d := 0x00, e := 0xD8, h := 0x01, l := 0x4D
    sp := 0xFFFE, pc := 0x0100
    ime := false, imeSched := false, haltBug := false
    runState := .running, cycleCount := 0, fault := none
    stepCycles := 0, busAccesses := []
    mem := [], busAnswers := [], stopWake := []
    config := {} }

end Sys2Proof.Machine
end

