-- ==== Sys2Proof/Machine/Ops.lean ====
section
/-! DEFINITION. The named operations over memory, the bus, the program counter and the stack; taking an interrupt, raising
the illegal-opcode fault, returning from an interrupt, and the reset operation. -/

namespace Sys2Proof.Machine

/-! ### The plain store behind the bus -/

/-- What a location that nothing lists reads as. DESIGN CHOICE: the spec gives memory no contents (20_memory.md R62);
this is the value of the spec's own test bench (95_test_vectors.md section 0). See notes/assumptions/2.md. -/
def Memory.unwritten : Byte := 0x00

/-- The canonical form from address `lo` on: addresses strictly rising and below 65536, no entry equal to what an
unlisted location reads as. -/
def Memory.wfFrom : Nat → Memory → Bool
  | _, [] => true
  | lo, (k, v) :: rest =>
    decide (lo ≤ k) && decide (k < 65536) && decide (v ≠ Memory.unwritten) && Memory.wfFrom (k + 1) rest

/-- The canonical form of a memory: equal memories are equal lists. -/
def Memory.wf (m : Memory) : Bool := Memory.wfFrom 0 m

/-- The byte the store holds at an address (R50). -/
def Memory.read : Memory → Nat → Byte
  | [], _ => Memory.unwritten
  | (k, v) :: rest, a => if k = a then v else Memory.read rest a

/-- The store after a byte is stored at an address; it keeps the canonical form. -/
def Memory.write : Memory → Nat → Byte → Memory
  | [], a, v => if v = Memory.unwritten then [] else [(a, v)]
  | (k, w) :: rest, a, v =>
    if k = a then
      if v = Memory.unwritten then rest else (a, v) :: rest
    else if a < k then
      if v = Memory.unwritten then (k, w) :: rest else (a, v) :: (k, w) :: rest
    else (k, w) :: Memory.write rest a v

/-- The store after bytes are stored at ascending addresses (mod 65536). -/
def Memory.writeBytes : Memory → Word → List Byte → Memory
  | m, _, [] => m
  | m, addr, v :: rest => Memory.writeBytes (Memory.write m addr.toNat v) (addr + 1) rest

/-! ### The bus (R51, R12)

`MemRead(addr, 1)` is the value `busValue addr` and the state `busRead addr`; `MemWrite(addr, 1, v)` is the state
`busWrite addr v`. No access fails. -/

/-- What the bus answers to a read of `addr` made now (R52). -/
def State.busValue (s : State) (addr : Word) : Byte :=
  match s.busAnswers with
  | some v :: _ => v
  | none :: _ => Memory.read s.mem addr.toNat
  | [] => Memory.read s.mem addr.toNat

/-- The state after a read of `addr`: the access is in the list, and the environment's answer, if it gave one, is used up. -/
def State.busRead (s : State) (addr : Word) : State :=
  { s with busAnswers := s.busAnswers.tail, busAccesses := s.busAccesses ++ [.read addr (s.busValue addr)] }

/-- The state after a write of `v` to `addr`. -/
def State.busWrite (s : State) (addr : Word) (v : Byte) : State :=
  { s with mem := Memory.write s.mem addr.toNat v, busAccesses := s.busAccesses ++ [.write addr v] }

/-- `MemWrite16(addr, w)`: the low byte at `addr`, then the high byte at the next address (R56). -/
def State.busWrite16 (s : State) (addr : Word) (w : Word) : State :=
  (s.busWrite addr (lo8 w)).busWrite (addr + 1) (hi8 w)

/-! ### Program counter and stack pointer -/

def State.setPc (s : State) (w : Word) : State := { s with pc := w }

def State.setSp (s : State) (w : Word) : State := { s with sp := w }

/-! ### Control state -/

def State.setRunState (s : State) (r : RunState) : State := { s with runState := r }

def State.setHaltBug (s : State) (x : Bool) : State := { s with haltBug := x }

/-- `IME <- 0`, and a pending `EI` is cancelled (46_cpu_control.md R293, 60_exceptions.md R316). -/
def State.disableInterrupts (s : State) : State := { s with ime := false, imeSched := false }

/-! ### Fetching -/

/-- `Fetch8()` (30_encoding.md R87). -/
def State.fetch8 (s : State) : Byte × State :=
  (s.busValue s.pc, (s.busRead s.pc).setPc (s.pc + 1))

/-- `Fetch16()`: low byte first (R88). -/
def State.fetch16 (s : State) : Word × State :=
  let lo := s.fetch8
  let hi := lo.2.fetch8
  (ofBytes hi.1 lo.1, hi.2)

/-- `FetchOpcode()`: the halt-bug latch, when set, is used up in place of the increment of `PC` (R89). -/
def State.fetchOpcode (s : State) : Byte × State :=
  let t := s.busRead s.pc
  (s.busValue s.pc, if s.haltBug then t.setHaltBug false else t.setPc (s.pc + 1))

/-! ### The stack -/

/-- `Push16(w)`: the high byte at `SP - 1` first, then the low byte at `SP - 2` (41_load16_stack.md R140). -/
def State.push16 (s : State) (w : Word) : State :=
  let hi := (s.setSp (s.sp - 1)).busWrite (s.sp - 1) (hi8 w)
  (hi.setSp (s.sp - 1 - 1)).busWrite (s.sp - 1 - 1) (lo8 w)

/-- `Pop16()`: the low byte at `SP` first, then the high byte at `SP + 1` (R141). -/
def State.pop16 (s : State) : Word × State :=
  let t := (s.busRead s.sp).setSp (s.sp + 1)
  (ofBytes (t.busValue (s.sp + 1)) (s.busValue s.sp), (t.busRead (s.sp + 1)).setSp (s.sp + 1 + 1))

/-! ### The end of a meaning -/

/-- `cycles <- n` (00_scope.md R13). -/
def State.setCycles (s : State) (n : Nat) : State := { s with stepCycles := n }

/-- The instruction is complete and reports `n` machine cycles. -/
def retire (n : Nat) (s : State) : Host.Outcome State Fault Refusal := .next (s.setCycles n)

/-! ### Interrupts (60_exceptions.md R313 to R318) -/

/-- The five interrupt sources (R314). -/
inductive IntSource where
  | vBlank
  | lcdStat
  | timer
  | serial
  | joypad
  deriving DecidableEq, Repr

/-- The bit of `IE` and `IF` that belongs to a source (R314). -/
def IntSource.bit : IntSource → Nat
  | .vBlank => 0
  | .lcdStat => 1
  | .timer => 2
  | .serial => 3
  | .joypad => 4

/-- `INT_VECTOR[k] = 0x0040 + 8*k` (R314). -/
def IntSource.vector (k : IntSource) : Word := BitVec.ofNat 16 (0x0040 + 8 * k.bit)

/-- The address of `IE` (10_state.md R32). -/
def ieAddr : Word := 0xFFFF

/-- The address of `IF` (R32). -/
def ifAddr : Word := 0xFF0F

/-- The requests that are both enabled and pending: `IE & IF & 0x1F` (R315). -/
def pendingEnabled (ie ifl : Byte) : Byte := ie &&& ifl &&& 0x1F

/-- The source with the least bit number set in `p`: the highest priority (R314). -/
def highestPriority (p : Byte) : Option IntSource :=
  if p.getLsbD 0 then some .vBlank
  else if p.getLsbD 1 then some .lcdStat
  else if p.getLsbD 2 then some .timer
  else if p.getLsbD 3 then some .serial
  else if p.getLsbD 4 then some .joypad
  else none

/-- `SampleInterrupts()`: read `IE`, then `IF` (R313). -/
def State.sampleInterrupts (s : State) : (Byte × Byte) × State :=
  let t := s.busRead ieAddr
  ((s.busValue ieAddr, t.busValue ifAddr), t.busRead ifAddr)

/-- `Dispatch(k, ifl)`: taking an interrupt (R316). The acknowledge write clears only the source's bit; `IME` and the
`EI` latch are cleared; `PC` is pushed and takes the vector; the core runs. -/
def State.dispatch (s : State) (k : IntSource) (ifl : Byte) : State :=
  let t := s.busWrite ifAddr (ifl &&& ~~~ ((0x01 : Byte) <<< k.bit))
  ((t.disableInterrupts.push16 s.pc).setPc k.vector).setRunState .running

/-- The dispatch of the highest-priority request of a sample, if there is one, with its cycles (R315). -/
def State.dispatchPending (s : State) (ie ifl : Byte) : State :=
  match highestPriority (pendingEnabled ie ifl) with
  | none => s
  | some k => (s.dispatch k ifl).setCycles (s.stepCycles + s.config.intDispatchCycles)

/-- `InterruptPhase(sampled)` (R315). -/
def State.interruptPhase (s : State) (sampled : Option (Byte × Byte)) : State :=
  if s.runState = .stopped then s
  else if s.ime then
    match sampled with
    | some (ie, ifl) => s.dispatchPending ie ifl
    | none =>
      let r := s.sampleInterrupts
      r.2.dispatchPending r.1.1 r.1.2
  else s

/-- The return from an interrupt: `PC <- Pop16()`, `IME <- 1` at once (45_control_flow.md R271). -/
def State.returnFromInterrupt (s : State) : State :=
  let r := s.pop16
  { r.2 with pc := r.1, ime := true }

/-! ### The illegal-opcode fault (R312) -/

/-- `raise IllegalOpcode(pc0)` in the state before the Step, whose `PC` is `pc0`: the latch is set and nothing else
changes. -/
def State.raiseIllegal (s : State) : State := { s with fault := some s.pc }

/-- Every piece of core state back at its value in `s`, the state before the Step; the bus access that `t` has made
did happen (R312 (a), (b)). -/
def State.undo (s t : State) : State := { s with busAccesses := t.busAccesses, busAnswers := t.busAnswers }

/-! ### Reset (70_reset_and_hazards.md R360 to R364) -/

/-- `reset(mode)`: the whole core state takes the values of R361 to R363, `F` with its low nibble zero; no bus access;
the store, the environment's inputs and the parameters stay. -/
def State.resetCore (s : State) (mode : ResetMode) : State :=
  let r := match mode with
    | .bootSkip => s.config.bootSkipRegs
    | .powerOn => s.config.powerOnRegs
  { a := r.a, f := r.f &&& 0xF0, b := r.b, c := r.c, d := r.d, e := r.e, h := r.h, l := r.l, sp := r.sp
    pc := match mode with
      | .bootSkip => 0x0100
      | .powerOn => 0x0000
    ime := false, imeSched := false, haltBug := false
    runState := .running, cycleCount := 0, fault := none
    stepCycles := 0, busAccesses := []
    mem := s.mem, busAnswers := s.busAnswers, stopWake := s.stopWake, config := s.config }

end Sys2Proof.Machine
end

