-- ==== Sys2Proof/Machine/Flags.lean ====
section
/-! DEFINITION. The flag register and every result and flag computation of the ALU (10_state.md R21, R24; 42_alu8.md R160,
R161, R190; 43_alu16.md R210, R214; 44_rotate_shift_bit.md R224). -/

namespace Sys2Proof.Machine

/-! ### The register `F` -/

/-- `F` as it reads: bits 3:0 are zero (R21). -/
def State.readF (s : State) : Byte := s.f &&& 0xF0

/-- A write of `v` to `F` stores `v & 0xF0` (R21). -/
def State.writeF (s : State) (v : Byte) : State := { s with f := v &&& 0xF0 }

/-- `Z` (R24). -/
def State.zf (s : State) : Bool := s.f.getLsbD 7

/-- `N` (R24). -/
def State.nf (s : State) : Bool := s.f.getLsbD 6

/-- `Hf` (R24). -/
def State.hf (s : State) : Bool := s.f.getLsbD 5

/-- `Cy` (R24). -/
def State.cy (s : State) : Bool := s.f.getLsbD 4

/-- `F = Z*128 + N*64 + Hf*32 + Cy*16` (R24). -/
def packFlags (z n h c : Bool) : Byte :=
  BitVec.ofNat 8 (z.toNat * 128 + n.toNat * 64 + h.toNat * 32 + c.toNat * 16)

/-- Write the four flags; a flag an instruction does not write is passed its own value. -/
def State.setFlags (s : State) (z n h c : Bool) : State := { s with f := packFlags z n h c }

/-! ### The adders -/

/-- What an 8-bit adder returns: the result, zero, half-carry, carry. -/
structure Sum8 where
  r : Byte
  z : Bool
  h : Bool
  c : Bool
  deriving DecidableEq, Repr

/-- `Add8(a, b, cin)` (R160). -/
def add8 (a b : Byte) (cin : Bool) : Sum8 :=
  let sum := a.toNat + b.toNat + cin.toNat
  let r := BitVec.ofNat 8 sum
  { r := r
    z := decide (r = 0)
    h := decide ((a &&& 0x0F).toNat + (b &&& 0x0F).toNat + cin.toNat > 0x0F)
    c := decide (sum > 0xFF) }

/-- `Sub8(a, b, cin)`; the carry is a borrow (R161). -/
def sub8 (a b : Byte) (cin : Bool) : Sum8 :=
  let r := BitVec.ofInt 8 ((a.toNat : Int) - b.toNat - cin.toNat)
  { r := r
    z := decide (r = 0)
    h := decide ((a &&& 0x0F).toNat < (b &&& 0x0F).toNat + cin.toNat)
    c := decide (a.toNat < b.toNat + cin.toNat) }

/-- What a 16-bit adder returns: the result, half-carry, carry. -/
structure Sum16 where
  r : Word
  h : Bool
  c : Bool
  deriving DecidableEq, Repr

/-- The adder of `ADD HL,rr`: carries out of bits 11 and 15 (R210). -/
def add16 (a b : Word) : Sum16 :=
  let sum := a.toNat + b.toNat
  { r := BitVec.ofNat 16 sum
    h := decide ((a &&& 0x0FFF).toNat + (b &&& 0x0FFF).toNat > 0x0FFF)
    c := decide (sum > 0xFFFF) }

/-- `AddSPe(sp, e)`: the sum takes `e` as signed, the carries out of bits 3 and 7 take it as unsigned (R214). -/
def addSpE (sp : Word) (e : Byte) : Sum16 :=
  { r := BitVec.ofInt 16 ((sp.toNat : Int) + signed8 e)
    h := decide ((sp &&& 0x000F).toNat + (e &&& 0x0F).toNat > 0x0F)
    c := decide ((sp &&& 0x00FF).toNat + e.toNat > 0xFF) }

/-! ### Decimal adjust -/

/-- What `DAA` adds or subtracts: both tests of the addition branch look at `a` before any correction (R190). -/
def daaAdjust (a : Byte) (n h c : Bool) : Nat :=
  if n then (if h then 0x06 else 0) + (if c then 0x60 else 0)
  else (if h || decide ((a &&& 0x0F).toNat > 0x09) then 0x06 else 0)
    + (if c || decide (a.toNat > 0x99) then 0x60 else 0)

/-- The result of `DAA` (R190). -/
def daaResult (a : Byte) (n h c : Bool) : Byte :=
  if n then BitVec.ofInt 8 ((a.toNat : Int) - daaAdjust a n h c)
  else BitVec.ofNat 8 (a.toNat + daaAdjust a n h c)

/-- The carry `DAA` leaves: kept after a subtraction, set but never cleared after an addition (R190). -/
def daaCarry (a : Byte) (n c : Bool) : Bool := c || (!n && decide (a.toNat > 0x99))

/-! ### The one-bit rotates and shifts -/

/-- The functions of R224: the result byte and the bit moved out. -/
def rotate (op : RotOp) (v : Byte) (cin : Bool) : Byte × Bool :=
  match op with
  | .rlc => ((v <<< 1) ||| (v >>> 7), v.getLsbD 7)
  | .rrc => ((v >>> 1) ||| ((v &&& 1) <<< 7), v.getLsbD 0)
  | .rl => ((v <<< 1) ||| (if cin then 0x01 else 0x00), v.getLsbD 7)
  | .rr => ((v >>> 1) ||| (if cin then 0x80 else 0x00), v.getLsbD 0)
  | .sla => (v <<< 1, v.getLsbD 7)
  | .sra => ((v >>> 1) ||| (v &&& 0x80), v.getLsbD 0)
  | .swap => (((v &&& 0x0F) <<< 4) ||| (v >>> 4), false)
  | .srl => (v >>> 1, v.getLsbD 0)

end Sys2Proof.Machine
end

