-- ==== Sys2Proof/Machine/Operands.lean ====
section
/-! DEFINITION. The operand forms: registers and pairs by their codes (30_encoding.md R84, R85; 10_state.md R22), the
conditions (R86), the addresses of the memory forms (20_memory.md R54). -/

namespace Sys2Proof.Machine

/-- The register a code selects (R84). -/
def State.getReg (s : State) : Reg8 → Byte
  | .b => s.b
  | .c => s.c
  | .d => s.d
  | .e => s.e
  | .h => s.h
  | .l => s.l
  | .a => s.a

/-- `x[r] <- v` (R84). -/
def State.setReg (s : State) (r : Reg8) (v : Byte) : State :=
  match r with
  | .b => { s with b := v }
  | .c => { s with c := v }
  | .d => { s with d := v }
  | .e => { s with e := v }
  | .h => { s with h := v }
  | .l => { s with l := v }
  | .a => { s with a := v }

/-- `BC = B ++ C` (R22). -/
def State.bc (s : State) : Word := ofBytes s.b s.c

/-- `DE = D ++ E` (R22). -/
def State.de (s : State) : Word := ofBytes s.d s.e

/-- `HL = H ++ L` (R22). -/
def State.hl (s : State) : Word := ofBytes s.h s.l

/-- `AF = A ++ F` (R22, R21). -/
def State.af (s : State) : Word := ofBytes s.a s.readF

/-- A write of the pair `HL` (R22). -/
def State.setHl (s : State) (w : Word) : State := { s with h := hi8 w, l := lo8 w }

/-- `rp[p]` (R85). -/
def State.getPair (s : State) : Pair16 → Word
  | .bc => s.bc
  | .de => s.de
  | .hl => s.hl
  | .sp => s.sp

/-- `rp[p] <- w` (R85, R22). -/
def State.setPair (s : State) (p : Pair16) (w : Word) : State :=
  match p with
  | .bc => { s with b := hi8 w, c := lo8 w }
  | .de => { s with d := hi8 w, e := lo8 w }
  | .hl => { s with h := hi8 w, l := lo8 w }
  | .sp => { s with sp := w }

/-- `rp2[p]` (R85). -/
def State.getStackPair (s : State) : StackPair → Word
  | .bc => s.bc
  | .de => s.de
  | .hl => s.hl
  | .af => s.af

/-- `rp2[p] <- w`; for `AF` the low nibble of the byte for `F` is dropped (R85, R22, 41_load16_stack.md R148). -/
def State.setStackPair (s : State) (p : StackPair) (w : Word) : State :=
  match p with
  | .bc => { s with b := hi8 w, c := lo8 w }
  | .de => { s with d := hi8 w, e := lo8 w }
  | .hl => { s with h := hi8 w, l := lo8 w }
  | .af => { s with a := hi8 w, f := lo8 w &&& 0xF0 }

/-- `Cond(cc)` (R86). -/
def State.cond (s : State) : Cond → Bool
  | .nz => !s.zf
  | .z => s.zf
  | .nc => !s.cy
  | .c => s.cy

/-- `0xFF00 + v`: the address of the high-page forms (40_load8.md section 3). -/
def highPage (v : Byte) : Word := 0xFF00 + v.setWidth 16

end Sys2Proof.Machine
end

