-- ==== Sys2Proof/Machine/Alu16.lean ====
section
/-! DEFINITION. 16-bit arithmetic (43_alu16.md R210 to R213). -/

namespace Sys2Proof.Machine

/-- `ADD HL,rr` (R210): `Z` is kept. -/
def addHl (p : Pair16) (s : State) : Host.Outcome State Fault Refusal :=
  let sum := add16 s.hl (s.getPair p)
  retire 2 ((s.setHl sum.r).setFlags s.zf false sum.h sum.c)

/-- `ADD SP,e` (R213): `Z` is forced to 0. -/
def addSp (e : Byte) (s : State) : Host.Outcome State Fault Refusal :=
  let sum := addSpE s.sp e
  retire 4 ((s.setSp sum.r).setFlags false false sum.h sum.c)

/-! ### The instructions -/

/-- `INC BC` (R211). -/
def execIncBc (s : State) : Host.Outcome State Fault Refusal := retire 2 (s.setPair .bc (s.getPair .bc + 1))

/-- `ADD HL,BC` (R210). -/
def execAddHlBc (s : State) : Host.Outcome State Fault Refusal := addHl .bc s

/-- `DEC BC` (R212). -/
def execDecBc (s : State) : Host.Outcome State Fault Refusal := retire 2 (s.setPair .bc (s.getPair .bc - 1))

/-- `INC DE` (R211). -/
def execIncDe (s : State) : Host.Outcome State Fault Refusal := retire 2 (s.setPair .de (s.getPair .de + 1))

/-- `ADD HL,DE` (R210). -/
def execAddHlDe (s : State) : Host.Outcome State Fault Refusal := addHl .de s

/-- `DEC DE` (R212). -/
def execDecDe (s : State) : Host.Outcome State Fault Refusal := retire 2 (s.setPair .de (s.getPair .de - 1))

/-- `INC HL` (R211). -/
def execIncHl (s : State) : Host.Outcome State Fault Refusal := retire 2 (s.setPair .hl (s.getPair .hl + 1))

/-- `ADD HL,HL` (R210). -/
def execAddHlHl (s : State) : Host.Outcome State Fault Refusal := addHl .hl s

/-- `DEC HL` (R212). -/
def execDecHl (s : State) : Host.Outcome State Fault Refusal := retire 2 (s.setPair .hl (s.getPair .hl - 1))

/-- `INC SP` (R211). -/
def execIncSp (s : State) : Host.Outcome State Fault Refusal := retire 2 (s.setPair .sp (s.getPair .sp + 1))

/-- `ADD HL,SP` (R210). -/
def execAddHlSp (s : State) : Host.Outcome State Fault Refusal := addHl .sp s

/-- `DEC SP` (R212). -/
def execDecSp (s : State) : Host.Outcome State Fault Refusal := retire 2 (s.setPair .sp (s.getPair .sp - 1))

/-- `ADD SP,e` (R213). -/
def execAddSpE (e : Byte) (s : State) : Host.Outcome State Fault Refusal := addSp e s

end Sys2Proof.Machine
end

