-- ==== Sys2Proof/Machine/Alu8.lean ====
section
/-! DEFINITION. 8-bit arithmetic and logic (42_alu8.md R162 to R193). -/

namespace Sys2Proof.Machine

/-- The effect of an ALU operation with operand `v` on `A` and the flags (R162 to R185). -/
def aluApply (op : AluOp) (v : Byte) (s : State) : State :=
  match op with
  | .add => let x := add8 s.a v false; (s.setReg .a x.r).setFlags x.z false x.h x.c
  | .adc => let x := add8 s.a v s.cy; (s.setReg .a x.r).setFlags x.z false x.h x.c
  | .sub => let x := sub8 s.a v false; (s.setReg .a x.r).setFlags x.z true x.h x.c
  | .sbc => let x := sub8 s.a v s.cy; (s.setReg .a x.r).setFlags x.z true x.h x.c
  | .and => (s.setReg .a (s.a &&& v)).setFlags (decide (s.a &&& v = 0)) false true false
  | .xor => (s.setReg .a (s.a ^^^ v)).setFlags (decide (s.a ^^^ v = 0)) false false false
  | .or => (s.setReg .a (s.a ||| v)).setFlags (decide (s.a ||| v = 0)) false false false
  | .cp => let x := sub8 s.a v false; s.setFlags x.z true x.h x.c

/-- An ALU operation with a register operand. -/
def aluReg (op : AluOp) (r : Reg8) (s : State) : Host.Outcome State Fault Refusal :=
  retire 1 (aluApply op (s.getReg r) s)

/-- An ALU operation with the byte at `HL`. -/
def aluAtHl (op : AluOp) (s : State) : Host.Outcome State Fault Refusal :=
  retire 2 (aluApply op (s.busValue s.hl) (s.busRead s.hl))

/-- An ALU operation with an immediate. -/
def aluImm (op : AluOp) (n : Byte) (s : State) : Host.Outcome State Fault Refusal :=
  retire 2 (aluApply op n s)

/-- The flags of an increment of `v`; `Cy` is kept (R186, R187). -/
def incFlags (v : Byte) (s : State) : State :=
  s.setFlags (decide (v + 1 = 0)) false (decide (v &&& 0x0F = 0x0F)) s.cy

/-- The flags of a decrement of `v`; `Cy` is kept (R188, R189). -/
def decFlags (v : Byte) (s : State) : State :=
  s.setFlags (decide (v - 1 = 0)) true (decide (v &&& 0x0F = 0x00)) s.cy

/-- `INC r` (R186). -/
def incReg (r : Reg8) (s : State) : Host.Outcome State Fault Refusal :=
  retire 1 (incFlags (s.getReg r) (s.setReg r (s.getReg r + 1)))

/-- `DEC r` (R188). -/
def decReg (r : Reg8) (s : State) : Host.Outcome State Fault Refusal :=
  retire 1 (decFlags (s.getReg r) (s.setReg r (s.getReg r - 1)))

/-- `INC (HL)`: a read, then a write (R187). -/
def incAtHl (s : State) : Host.Outcome State Fault Refusal :=
  let v := s.busValue s.hl
  retire 3 (incFlags v ((s.busRead s.hl).busWrite s.hl (v + 1)))

/-- `DEC (HL)`: a read, then a write (R189). -/
def decAtHl (s : State) : Host.Outcome State Fault Refusal :=
  let v := s.busValue s.hl
  retire 3 (decFlags v ((s.busRead s.hl).busWrite s.hl (v - 1)))

/-- `DAA` (R190): `N` is kept. -/
def decimalAdjust (s : State) : Host.Outcome State Fault Refusal :=
  let r := daaResult s.a s.nf s.hf s.cy
  retire 1 ((s.setReg .a r).setFlags (decide (r = 0)) s.nf false (daaCarry s.a s.nf s.cy))

/-- `CPL` (R191): `Z` and `Cy` are kept. -/
def complementA (s : State) : Host.Outcome State Fault Refusal :=
  retire 1 ((s.setReg .a (s.a ^^^ 0xFF)).setFlags s.zf true true s.cy)

/-! ### The instructions -/

/-- `INC B` (R186). -/
def execIncB (s : State) : Host.Outcome State Fault Refusal := incReg .b s

/-- `DEC B` (R188). -/
def execDecB (s : State) : Host.Outcome State Fault Refusal := decReg .b s

/-- `INC C` (R186). -/
def execIncC (s : State) : Host.Outcome State Fault Refusal := incReg .c s

/-- `DEC C` (R188). -/
def execDecC (s : State) : Host.Outcome State Fault Refusal := decReg .c s

/-- `INC D` (R186). -/
def execIncD (s : State) : Host.Outcome State Fault Refusal := incReg .d s

/-- `DEC D` (R188). -/
def execDecD (s : State) : Host.Outcome State Fault Refusal := decReg .d s

/-- `INC E` (R186). -/
def execIncE (s : State) : Host.Outcome State Fault Refusal := incReg .e s

/-- `DEC E` (R188). -/
def execDecE (s : State) : Host.Outcome State Fault Refusal := decReg .e s

/-- `INC H` (R186). -/
def execIncH (s : State) : Host.Outcome State Fault Refusal := incReg .h s

/-- `DEC H` (R188). -/
def execDecH (s : State) : Host.Outcome State Fault Refusal := decReg .h s

/-- `DAA` (R190). -/
def execDaa (s : State) : Host.Outcome State Fault Refusal := decimalAdjust s

/-- `INC L` (R186). -/
def execIncL (s : State) : Host.Outcome State Fault Refusal := incReg .l s

/-- `DEC L` (R188). -/
def execDecL (s : State) : Host.Outcome State Fault Refusal := decReg .l s

/-- `CPL` (R191). -/
def execCpl (s : State) : Host.Outcome State Fault Refusal := complementA s

/-- `INC (HL)` (R187). -/
def execIncAtHl (s : State) : Host.Outcome State Fault Refusal := incAtHl s

/-- `DEC (HL)` (R189). -/
def execDecAtHl (s : State) : Host.Outcome State Fault Refusal := decAtHl s

/-- `SCF` (R192). -/
def execScf (s : State) : Host.Outcome State Fault Refusal := retire 1 (s.setFlags s.zf false false true)

/-- `INC A` (R186). -/
def execIncA (s : State) : Host.Outcome State Fault Refusal := incReg .a s

/-- `DEC A` (R188). -/
def execDecA (s : State) : Host.Outcome State Fault Refusal := decReg .a s

/-- `CCF` (R193). -/
def execCcf (s : State) : Host.Outcome State Fault Refusal := retire 1 (s.setFlags s.zf false false (!s.cy))

/-- `ADD A,B` (R162). -/
def execAddAB (s : State) : Host.Outcome State Fault Refusal := aluReg .add .b s

/-- `ADD A,C` (R162). -/
def execAddAC (s : State) : Host.Outcome State Fault Refusal := aluReg .add .c s

/-- `ADD A,D` (R162). -/
def execAddAD (s : State) : Host.Outcome State Fault Refusal := aluReg .add .d s

/-- `ADD A,E` (R162). -/
def execAddAE (s : State) : Host.Outcome State Fault Refusal := aluReg .add .e s

/-- `ADD A,H` (R162). -/
def execAddAH (s : State) : Host.Outcome State Fault Refusal := aluReg .add .h s

/-- `ADD A,L` (R162). -/
def execAddAL (s : State) : Host.Outcome State Fault Refusal := aluReg .add .l s

/-- `ADD A,(HL)` (R163). -/
def execAddAAtHl (s : State) : Host.Outcome State Fault Refusal := aluAtHl .add s

/-- `ADD A,A` (R162). -/
def execAddAA (s : State) : Host.Outcome State Fault Refusal := aluReg .add .a s

/-- `ADC A,B` (R165). -/
def execAdcAB (s : State) : Host.Outcome State Fault Refusal := aluReg .adc .b s

/-- `ADC A,C` (R165). -/
def execAdcAC (s : State) : Host.Outcome State Fault Refusal := aluReg .adc .c s

/-- `ADC A,D` (R165). -/
def execAdcAD (s : State) : Host.Outcome State Fault Refusal := aluReg .adc .d s

/-- `ADC A,E` (R165). -/
def execAdcAE (s : State) : Host.Outcome State Fault Refusal := aluReg .adc .e s

/-- `ADC A,H` (R165). -/
def execAdcAH (s : State) : Host.Outcome State Fault Refusal := aluReg .adc .h s

/-- `ADC A,L` (R165). -/
def execAdcAL (s : State) : Host.Outcome State Fault Refusal := aluReg .adc .l s

/-- `ADC A,(HL)` (R166). -/
def execAdcAAtHl (s : State) : Host.Outcome State Fault Refusal := aluAtHl .adc s

/-- `ADC A,A` (R165). -/
def execAdcAA (s : State) : Host.Outcome State Fault Refusal := aluReg .adc .a s

/-- `SUB B` (R168). -/
def execSubB (s : State) : Host.Outcome State Fault Refusal := aluReg .sub .b s

/-- `SUB C` (R168). -/
def execSubC (s : State) : Host.Outcome State Fault Refusal := aluReg .sub .c s

/-- `SUB D` (R168). -/
def execSubD (s : State) : Host.Outcome State Fault Refusal := aluReg .sub .d s

/-- `SUB E` (R168). -/
def execSubE (s : State) : Host.Outcome State Fault Refusal := aluReg .sub .e s

/-- `SUB H` (R168). -/
def execSubH (s : State) : Host.Outcome State Fault Refusal := aluReg .sub .h s

/-- `SUB L` (R168). -/
def execSubL (s : State) : Host.Outcome State Fault Refusal := aluReg .sub .l s

/-- `SUB (HL)` (R169). -/
def execSubAtHl (s : State) : Host.Outcome State Fault Refusal := aluAtHl .sub s

/-- `SUB A` (R168). -/
def execSubA (s : State) : Host.Outcome State Fault Refusal := aluReg .sub .a s

/-- `SBC A,B` (R171). -/
def execSbcAB (s : State) : Host.Outcome State Fault Refusal := aluReg .sbc .b s

/-- `SBC A,C` (R171). -/
def execSbcAC (s : State) : Host.Outcome State Fault Refusal := aluReg .sbc .c s

/-- `SBC A,D` (R171). -/
def execSbcAD (s : State) : Host.Outcome State Fault Refusal := aluReg .sbc .d s

/-- `SBC A,E` (R171). -/
def execSbcAE (s : State) : Host.Outcome State Fault Refusal := aluReg .sbc .e s

/-- `SBC A,H` (R171). -/
def execSbcAH (s : State) : Host.Outcome State Fault Refusal := aluReg .sbc .h s

/-- `SBC A,L` (R171). -/
def execSbcAL (s : State) : Host.Outcome State Fault Refusal := aluReg .sbc .l s

/-- `SBC A,(HL)` (R172). -/
def execSbcAAtHl (s : State) : Host.Outcome State Fault Refusal := aluAtHl .sbc s

/-- `SBC A,A` (R171). -/
def execSbcAA (s : State) : Host.Outcome State Fault Refusal := aluReg .sbc .a s

/-- `AND B` (R174). -/
def execAndB (s : State) : Host.Outcome State Fault Refusal := aluReg .and .b s

/-- `AND C` (R174). -/
def execAndC (s : State) : Host.Outcome State Fault Refusal := aluReg .and .c s

/-- `AND D` (R174). -/
def execAndD (s : State) : Host.Outcome State Fault Refusal := aluReg .and .d s

/-- `AND E` (R174). -/
def execAndE (s : State) : Host.Outcome State Fault Refusal := aluReg .and .e s

/-- `AND H` (R174). -/
def execAndH (s : State) : Host.Outcome State Fault Refusal := aluReg .and .h s

/-- `AND L` (R174). -/
def execAndL (s : State) : Host.Outcome State Fault Refusal := aluReg .and .l s

/-- `AND (HL)` (R175). -/
def execAndAtHl (s : State) : Host.Outcome State Fault Refusal := aluAtHl .and s

/-- `AND A` (R174). -/
def execAndA (s : State) : Host.Outcome State Fault Refusal := aluReg .and .a s

/-- `XOR B` (R177). -/
def execXorB (s : State) : Host.Outcome State Fault Refusal := aluReg .xor .b s

/-- `XOR C` (R177). -/
def execXorC (s : State) : Host.Outcome State Fault Refusal := aluReg .xor .c s

/-- `XOR D` (R177). -/
def execXorD (s : State) : Host.Outcome State Fault Refusal := aluReg .xor .d s

/-- `XOR E` (R177). -/
def execXorE (s : State) : Host.Outcome State Fault Refusal := aluReg .xor .e s

/-- `XOR H` (R177). -/
def execXorH (s : State) : Host.Outcome State Fault Refusal := aluReg .xor .h s

/-- `XOR L` (R177). -/
def execXorL (s : State) : Host.Outcome State Fault Refusal := aluReg .xor .l s

/-- `XOR (HL)` (R178). -/
def execXorAtHl (s : State) : Host.Outcome State Fault Refusal := aluAtHl .xor s

/-- `XOR A` (R177). -/
def execXorA (s : State) : Host.Outcome State Fault Refusal := aluReg .xor .a s

/-- `OR B` (R180). -/
def execOrB (s : State) : Host.Outcome State Fault Refusal := aluReg .or .b s

/-- `OR C` (R180). -/
def execOrC (s : State) : Host.Outcome State Fault Refusal := aluReg .or .c s

/-- `OR D` (R180). -/
def execOrD (s : State) : Host.Outcome State Fault Refusal := aluReg .or .d s

/-- `OR E` (R180). -/
def execOrE (s : State) : Host.Outcome State Fault Refusal := aluReg .or .e s

/-- `OR H` (R180). -/
def execOrH (s : State) : Host.Outcome State Fault Refusal := aluReg .or .h s

/-- `OR L` (R180). -/
def execOrL (s : State) : Host.Outcome State Fault Refusal := aluReg .or .l s

/-- `OR (HL)` (R181). -/
def execOrAtHl (s : State) : Host.Outcome State Fault Refusal := aluAtHl .or s

/-- `OR A` (R180). -/
def execOrA (s : State) : Host.Outcome State Fault Refusal := aluReg .or .a s

/-- `CP B` (R183). -/
def execCpB (s : State) : Host.Outcome State Fault Refusal := aluReg .cp .b s

/-- `CP C` (R183). -/
def execCpC (s : State) : Host.Outcome State Fault Refusal := aluReg .cp .c s

/-- `CP D` (R183). -/
def execCpD (s : State) : Host.Outcome State Fault Refusal := aluReg .cp .d s

/-- `CP E` (R183). -/
def execCpE (s : State) : Host.Outcome State Fault Refusal := aluReg .cp .e s

/-- `CP H` (R183). -/
def execCpH (s : State) : Host.Outcome State Fault Refusal := aluReg .cp .h s

/-- `CP L` (R183). -/
def execCpL (s : State) : Host.Outcome State Fault Refusal := aluReg .cp .l s

/-- `CP (HL)` (R184). -/
def execCpAtHl (s : State) : Host.Outcome State Fault Refusal := aluAtHl .cp s

/-- `CP A` (R183). -/
def execCpA (s : State) : Host.Outcome State Fault Refusal := aluReg .cp .a s

/-- `ADD A,n` (R164). -/
def execAddAN (n : Byte) (s : State) : Host.Outcome State Fault Refusal := aluImm .add n s

/-- `ADC A,n` (R167). -/
def execAdcAN (n : Byte) (s : State) : Host.Outcome State Fault Refusal := aluImm .adc n s

/-- `SUB n` (R170). -/
def execSubN (n : Byte) (s : State) : Host.Outcome State Fault Refusal := aluImm .sub n s

/-- `SBC A,n` (R173). -/
def execSbcAN (n : Byte) (s : State) : Host.Outcome State Fault Refusal := aluImm .sbc n s

/-- `AND n` (R176). -/
def execAndN (n : Byte) (s : State) : Host.Outcome State Fault Refusal := aluImm .and n s

/-- `XOR n` (R179). -/
def execXorN (n : Byte) (s : State) : Host.Outcome State Fault Refusal := aluImm .xor n s

/-- `OR n` (R182). -/
def execOrN (n : Byte) (s : State) : Host.Outcome State Fault Refusal := aluImm .or n s

/-- `CP n` (R185). -/
def execCpN (n : Byte) (s : State) : Host.Outcome State Fault Refusal := aluImm .cp n s

end Sys2Proof.Machine
end

