-- ==== Sys2Proof/Machine/Control.lean ====
section
/-! DEFINITION. Jumps, calls, returns and restarts (45_control_flow.md R260 to R272). -/

namespace Sys2Proof.Machine

/-- `(PC + signed8(e)) mod 65536`, where `PC` is the address after the `e` byte (R263, R270). -/
def relativeTarget (pc : Word) (e : Byte) : Word := BitVec.ofInt 16 ((pc.toNat : Int) + signed8 e)

/-- A transfer to `target` (R260, R262, R263). -/
def jump (target : Word) (cycles : Nat) (s : State) : Host.Outcome State Fault Refusal :=
  retire cycles (s.setPc target)

/-- `JP cc,nn` (R261, R269). -/
def jumpIf (taken : Bool) (nn : Word) (s : State) : Host.Outcome State Fault Refusal :=
  if taken then jump nn 4 s else retire 3 s

/-- `JR cc,e` (R264, R269). -/
def jumpRelativeIf (taken : Bool) (e : Byte) (s : State) : Host.Outcome State Fault Refusal :=
  if taken then jump (relativeTarget s.pc e) 3 s else retire 2 s

/-- Push `PC` and go to `target` (R265, R272). -/
def call (target : Word) (cycles : Nat) (s : State) : Host.Outcome State Fault Refusal :=
  retire cycles ((s.push16 s.pc).setPc target)

/-- `CALL cc,nn` (R266, R269). -/
def callIf (taken : Bool) (nn : Word) (s : State) : Host.Outcome State Fault Refusal :=
  if taken then call nn 6 s else retire 3 s

/-- `PC <- Pop16()` (R267). -/
def ret (cycles : Nat) (s : State) : Host.Outcome State Fault Refusal :=
  let r := s.pop16
  retire cycles (r.2.setPc r.1)

/-- `RET cc` (R268, R269): not taken, it makes no stack access. -/
def retIf (taken : Bool) (s : State) : Host.Outcome State Fault Refusal :=
  if taken then ret 5 s else retire 2 s

/-! ### The instructions -/

/-- `JR e` (R263). -/
def execJrE (e : Byte) (s : State) : Host.Outcome State Fault Refusal := jump (relativeTarget s.pc e) 3 s

/-- `JR NZ,e` (R264). -/
def execJrNzE (e : Byte) (s : State) : Host.Outcome State Fault Refusal := jumpRelativeIf (s.cond .nz) e s

/-- `JR Z,e` (R264). -/
def execJrZE (e : Byte) (s : State) : Host.Outcome State Fault Refusal := jumpRelativeIf (s.cond .z) e s

/-- `JR NC,e` (R264). -/
def execJrNcE (e : Byte) (s : State) : Host.Outcome State Fault Refusal := jumpRelativeIf (s.cond .nc) e s

/-- `JR C,e` (R264). -/
def execJrCE (e : Byte) (s : State) : Host.Outcome State Fault Refusal := jumpRelativeIf (s.cond .c) e s

/-- `RET NZ` (R268). -/
def execRetNz (s : State) : Host.Outcome State Fault Refusal := retIf (s.cond .nz) s

/-- `JP NZ,nn` (R261). -/
def execJpNzNn (nn : Word) (s : State) : Host.Outcome State Fault Refusal := jumpIf (s.cond .nz) nn s

/-- `JP nn` (R260). -/
def execJpNn (nn : Word) (s : State) : Host.Outcome State Fault Refusal := jump nn 4 s

/-- `CALL NZ,nn` (R266). -/
def execCallNzNn (nn : Word) (s : State) : Host.Outcome State Fault Refusal := callIf (s.cond .nz) nn s

/-- `RST 0x00` (R272). -/
def execRst00 (s : State) : Host.Outcome State Fault Refusal := call 0x0000 4 s

/-- `RET Z` (R268). -/
def execRetZ (s : State) : Host.Outcome State Fault Refusal := retIf (s.cond .z) s

/-- `RET` (R267). -/
def execRet (s : State) : Host.Outcome State Fault Refusal := ret 4 s

/-- `JP Z,nn` (R261). -/
def execJpZNn (nn : Word) (s : State) : Host.Outcome State Fault Refusal := jumpIf (s.cond .z) nn s

/-- `CALL Z,nn` (R266). -/
def execCallZNn (nn : Word) (s : State) : Host.Outcome State Fault Refusal := callIf (s.cond .z) nn s

/-- `CALL nn` (R265). -/
def execCallNn (nn : Word) (s : State) : Host.Outcome State Fault Refusal := call nn 6 s

/-- `RST 0x08` (R272). -/
def execRst08 (s : State) : Host.Outcome State Fault Refusal := call 0x0008 4 s

/-- `RET NC` (R268). -/
def execRetNc (s : State) : Host.Outcome State Fault Refusal := retIf (s.cond .nc) s

/-- `JP NC,nn` (R261). -/
def execJpNcNn (nn : Word) (s : State) : Host.Outcome State Fault Refusal := jumpIf (s.cond .nc) nn s

/-- `CALL NC,nn` (R266). -/
def execCallNcNn (nn : Word) (s : State) : Host.Outcome State Fault Refusal := callIf (s.cond .nc) nn s

/-- `RST 0x10` (R272). -/
def execRst10 (s : State) : Host.Outcome State Fault Refusal := call 0x0010 4 s

/-- `RET C` (R268). -/
def execRetC (s : State) : Host.Outcome State Fault Refusal := retIf (s.cond .c) s

/-- `RETI` (R271). -/
def execReti (s : State) : Host.Outcome State Fault Refusal := retire 4 s.returnFromInterrupt

/-- `JP C,nn` (R261). -/
def execJpCNn (nn : Word) (s : State) : Host.Outcome State Fault Refusal := jumpIf (s.cond .c) nn s

/-- `CALL C,nn` (R266). -/
def execCallCNn (nn : Word) (s : State) : Host.Outcome State Fault Refusal := callIf (s.cond .c) nn s

/-- `RST 0x18` (R272). -/
def execRst18 (s : State) : Host.Outcome State Fault Refusal := call 0x0018 4 s

/-- `RST 0x20` (R272). -/
def execRst20 (s : State) : Host.Outcome State Fault Refusal := call 0x0020 4 s

/-- `JP HL` (R262). -/
def execJpHl (s : State) : Host.Outcome State Fault Refusal := jump s.hl 1 s

/-- `RST 0x28` (R272). -/
def execRst28 (s : State) : Host.Outcome State Fault Refusal := call 0x0028 4 s

/-- `RST 0x30` (R272). -/
def execRst30 (s : State) : Host.Outcome State Fault Refusal := call 0x0030 4 s

/-- `RST 0x38` (R272). -/
def execRst38 (s : State) : Host.Outcome State Fault Refusal := call 0x0038 4 s

end Sys2Proof.Machine
end

