-- ==== Sys2Proof/Machine/Bit.lean ====
section
/-! DEFINITION. `BIT`, `RES` and `SET` (44_rotate_shift_bit.md R241 to R246). -/

namespace Sys2Proof.Machine

/-- The flags of a bit test: `Z` is the complement of bit `b` of `v`, `Cy` is kept (R241, R242). -/
def bitFlags (b : Nat) (v : Byte) (s : State) : State := s.setFlags (!v.getLsbD b) false true s.cy

/-- `v` with bit `b` cleared (R243). -/
def clearBit (b : Nat) (v : Byte) : Byte := v &&& (0xFF ^^^ ((0x01 : Byte) <<< b))

/-- `v` with bit `b` set (R245). -/
def assertBit (b : Nat) (v : Byte) : Byte := v ||| ((0x01 : Byte) <<< b)

/-- `BIT b,r` (R241). -/
def bitReg (b : Nat) (r : Reg8) (s : State) : Host.Outcome State Fault Refusal :=
  retire 2 (bitFlags b (s.getReg r) s)

/-- `BIT b,(HL)`: a read and no write (R242). -/
def bitAtHl (b : Nat) (s : State) : Host.Outcome State Fault Refusal :=
  retire 3 (bitFlags b (s.busValue s.hl) (s.busRead s.hl))

/-- `RES b,r` (R243). -/
def resReg (b : Nat) (r : Reg8) (s : State) : Host.Outcome State Fault Refusal :=
  retire 2 (s.setReg r (clearBit b (s.getReg r)))

/-- `RES b,(HL)`: a read, then a write (R244). -/
def resAtHl (b : Nat) (s : State) : Host.Outcome State Fault Refusal :=
  retire 4 ((s.busRead s.hl).busWrite s.hl (clearBit b (s.busValue s.hl)))

/-- `SET b,r` (R245). -/
def setReg (b : Nat) (r : Reg8) (s : State) : Host.Outcome State Fault Refusal :=
  retire 2 (s.setReg r (assertBit b (s.getReg r)))

/-- `SET b,(HL)`: a read, then a write (R246). -/
def setAtHl (b : Nat) (s : State) : Host.Outcome State Fault Refusal :=
  retire 4 ((s.busRead s.hl).busWrite s.hl (assertBit b (s.busValue s.hl)))

/-! ### The instructions -/

/-- `BIT 0,B` (R241). -/
def execBit0B (s : State) : Host.Outcome State Fault Refusal := bitReg 0 .b s

/-- `BIT 0,C` (R241). -/
def execBit0C (s : State) : Host.Outcome State Fault Refusal := bitReg 0 .c s

/-- `BIT 0,D` (R241). -/
def execBit0D (s : State) : Host.Outcome State Fault Refusal := bitReg 0 .d s

/-- `BIT 0,E` (R241). -/
def execBit0E (s : State) : Host.Outcome State Fault Refusal := bitReg 0 .e s

/-- `BIT 0,H` (R241). -/
def execBit0H (s : State) : Host.Outcome State Fault Refusal := bitReg 0 .h s

/-- `BIT 0,L` (R241). -/
def execBit0L (s : State) : Host.Outcome State Fault Refusal := bitReg 0 .l s

/-- `BIT 0,(HL)` (R242). -/
def execBit0AtHl (s : State) : Host.Outcome State Fault Refusal := bitAtHl 0 s

/-- `BIT 0,A` (R241). -/
def execBit0A (s : State) : Host.Outcome State Fault Refusal := bitReg 0 .a s

/-- `BIT 1,B` (R241). -/
def execBit1B (s : State) : Host.Outcome State Fault Refusal := bitReg 1 .b s

/-- `BIT 1,C` (R241). -/
def execBit1C (s : State) : Host.Outcome State Fault Refusal := bitReg 1 .c s

/-- `BIT 1,D` (R241). -/
def execBit1D (s : State) : Host.Outcome State Fault Refusal := bitReg 1 .d s

/-- `BIT 1,E` (R241). -/
def execBit1E (s : State) : Host.Outcome State Fault Refusal := bitReg 1 .e s

/-- `BIT 1,H` (R241). -/
def execBit1H (s : State) : Host.Outcome State Fault Refusal := bitReg 1 .h s

/-- `BIT 1,L` (R241). -/
def execBit1L (s : State) : Host.Outcome State Fault Refusal := bitReg 1 .l s

/-- `BIT 1,(HL)` (R242). -/
def execBit1AtHl (s : State) : Host.Outcome State Fault Refusal := bitAtHl 1 s

/-- `BIT 1,A` (R241). -/
def execBit1A (s : State) : Host.Outcome State Fault Refusal := bitReg 1 .a s

/-- `BIT 2,B` (R241). -/
def execBit2B (s : State) : Host.Outcome State Fault Refusal := bitReg 2 .b s

/-- `BIT 2,C` (R241). -/
def execBit2C (s : State) : Host.Outcome State Fault Refusal := bitReg 2 .c s

/-- `BIT 2,D` (R241). -/
def execBit2D (s : State) : Host.Outcome State Fault Refusal := bitReg 2 .d s

/-- `BIT 2,E` (R241). -/
def execBit2E (s : State) : Host.Outcome State Fault Refusal := bitReg 2 .e s

/-- `BIT 2,H` (R241). -/
def execBit2H (s : State) : Host.Outcome State Fault Refusal := bitReg 2 .h s

/-- `BIT 2,L` (R241). -/
def execBit2L (s : State) : Host.Outcome State Fault Refusal := bitReg 2 .l s

/-- `BIT 2,(HL)` (R242). -/
def execBit2AtHl (s : State) : Host.Outcome State Fault Refusal := bitAtHl 2 s

/-- `BIT 2,A` (R241). -/
def execBit2A (s : State) : Host.Outcome State Fault Refusal := bitReg 2 .a s

/-- `BIT 3,B` (R241). -/
def execBit3B (s : State) : Host.Outcome State Fault Refusal := bitReg 3 .b s

/-- `BIT 3,C` (R241). -/
def execBit3C (s : State) : Host.Outcome State Fault Refusal := bitReg 3 .c s

/-- `BIT 3,D` (R241). -/
def execBit3D (s : State) : Host.Outcome State Fault Refusal := bitReg 3 .d s

/-- `BIT 3,E` (R241). -/
def execBit3E (s : State) : Host.Outcome State Fault Refusal := bitReg 3 .e s

/-- `BIT 3,H` (R241). -/
def execBit3H (s : State) : Host.Outcome State Fault Refusal := bitReg 3 .h s

/-- `BIT 3,L` (R241). -/
def execBit3L (s : State) : Host.Outcome State Fault Refusal := bitReg 3 .l s

/-- `BIT 3,(HL)` (R242). -/
def execBit3AtHl (s : State) : Host.Outcome State Fault Refusal := bitAtHl 3 s

/-- `BIT 3,A` (R241). -/
def execBit3A (s : State) : Host.Outcome State Fault Refusal := bitReg 3 .a s

/-- `BIT 4,B` (R241). -/
def execBit4B (s : State) : Host.Outcome State Fault Refusal := bitReg 4 .b s

/-- `BIT 4,C` (R241). -/
def execBit4C (s : State) : Host.Outcome State Fault Refusal := bitReg 4 .c s

/-- `BIT 4,D` (R241). -/
def execBit4D (s : State) : Host.Outcome State Fault Refusal := bitReg 4 .d s

/-- `BIT 4,E` (R241). -/
def execBit4E (s : State) : Host.Outcome State Fault Refusal := bitReg 4 .e s

/-- `BIT 4,H` (R241). -/
def execBit4H (s : State) : Host.Outcome State Fault Refusal := bitReg 4 .h s

/-- `BIT 4,L` (R241). -/
def execBit4L (s : State) : Host.Outcome State Fault Refusal := bitReg 4 .l s

/-- `BIT 4,(HL)` (R242). -/
def execBit4AtHl (s : State) : Host.Outcome State Fault Refusal := bitAtHl 4 s

/-- `BIT 4,A` (R241). -/
def execBit4A (s : State) : Host.Outcome State Fault Refusal := bitReg 4 .a s

/-- `BIT 5,B` (R241). -/
def execBit5B (s : State) : Host.Outcome State Fault Refusal := bitReg 5 .b s

/-- `BIT 5,C` (R241). -/
def execBit5C (s : State) : Host.Outcome State Fault Refusal := bitReg 5 .c s

/-- `BIT 5,D` (R241). -/
def execBit5D (s : State) : Host.Outcome State Fault Refusal := bitReg 5 .d s

/-- `BIT 5,E` (R241). -/
def execBit5E (s : State) : Host.Outcome State Fault Refusal := bitReg 5 .e s

/-- `BIT 5,H` (R241). -/
def execBit5H (s : State) : Host.Outcome State Fault Refusal := bitReg 5 .h s

/-- `BIT 5,L` (R241). -/
def execBit5L (s : State) : Host.Outcome State Fault Refusal := bitReg 5 .l s

/-- `BIT 5,(HL)` (R242). -/
def execBit5AtHl (s : State) : Host.Outcome State Fault Refusal := bitAtHl 5 s

/-- `BIT 5,A` (R241). -/
def execBit5A (s : State) : Host.Outcome State Fault Refusal := bitReg 5 .a s

/-- `BIT 6,B` (R241). -/
def execBit6B (s : State) : Host.Outcome State Fault Refusal := bitReg 6 .b s

/-- `BIT 6,C` (R241). -/
def execBit6C (s : State) : Host.Outcome State Fault Refusal := bitReg 6 .c s

/-- `BIT 6,D` (R241). -/
def execBit6D (s : State) : Host.Outcome State Fault Refusal := bitReg 6 .d s

/-- `BIT 6,E` (R241). -/
def execBit6E (s : State) : Host.Outcome State Fault Refusal := bitReg 6 .e s

/-- `BIT 6,H` (R241). -/
def execBit6H (s : State) : Host.Outcome State Fault Refusal := bitReg 6 .h s

/-- `BIT 6,L` (R241). -/
def execBit6L (s : State) : Host.Outcome State Fault Refusal := bitReg 6 .l s

/-- `BIT 6,(HL)` (R242). -/
def execBit6AtHl (s : State) : Host.Outcome State Fault Refusal := bitAtHl 6 s

/-- `BIT 6,A` (R241). -/
def execBit6A (s : State) : Host.Outcome State Fault Refusal := bitReg 6 .a s

/-- `BIT 7,B` (R241). -/
def execBit7B (s : State) : Host.Outcome State Fault Refusal := bitReg 7 .b s

/-- `BIT 7,C` (R241). -/
def execBit7C (s : State) : Host.Outcome State Fault Refusal := bitReg 7 .c s

/-- `BIT 7,D` (R241). -/
def execBit7D (s : State) : Host.Outcome State Fault Refusal := bitReg 7 .d s

/-- `BIT 7,E` (R241). -/
def execBit7E (s : State) : Host.Outcome State Fault Refusal := bitReg 7 .e s

/-- `BIT 7,H` (R241). -/
def execBit7H (s : State) : Host.Outcome State Fault Refusal := bitReg 7 .h s

/-- `BIT 7,L` (R241). -/
def execBit7L (s : State) : Host.Outcome State Fault Refusal := bitReg 7 .l s

/-- `BIT 7,(HL)` (R242). -/
def execBit7AtHl (s : State) : Host.Outcome State Fault Refusal := bitAtHl 7 s

/-- `BIT 7,A` (R241). -/
def execBit7A (s : State) : Host.Outcome State Fault Refusal := bitReg 7 .a s

/-- `RES 0,B` (R243). -/
def execRes0B (s : State) : Host.Outcome State Fault Refusal := resReg 0 .b s

/-- `RES 0,C` (R243). -/
def execRes0C (s : State) : Host.Outcome State Fault Refusal := resReg 0 .c s

/-- `RES 0,D` (R243). -/
def execRes0D (s : State) : Host.Outcome State Fault Refusal := resReg 0 .d s

/-- `RES 0,E` (R243). -/
def execRes0E (s : State) : Host.Outcome State Fault Refusal := resReg 0 .e s

/-- `RES 0,H` (R243). -/
def execRes0H (s : State) : Host.Outcome State Fault Refusal := resReg 0 .h s

/-- `RES 0,L` (R243). -/
def execRes0L (s : State) : Host.Outcome State Fault Refusal := resReg 0 .l s

/-- `RES 0,(HL)` (R244). -/
def execRes0AtHl (s : State) : Host.Outcome State Fault Refusal := resAtHl 0 s

/-- `RES 0,A` (R243). -/
def execRes0A (s : State) : Host.Outcome State Fault Refusal := resReg 0 .a s

/-- `RES 1,B` (R243). -/
def execRes1B (s : State) : Host.Outcome State Fault Refusal := resReg 1 .b s

/-- `RES 1,C` (R243). -/
def execRes1C (s : State) : Host.Outcome State Fault Refusal := resReg 1 .c s

/-- `RES 1,D` (R243). -/
def execRes1D (s : State) : Host.Outcome State Fault Refusal := resReg 1 .d s

/-- `RES 1,E` (R243). -/
def execRes1E (s : State) : Host.Outcome State Fault Refusal := resReg 1 .e s

/-- `RES 1,H` (R243). -/
def execRes1H (s : State) : Host.Outcome State Fault Refusal := resReg 1 .h s

/-- `RES 1,L` (R243). -/
def execRes1L (s : State) : Host.Outcome State Fault Refusal := resReg 1 .l s

/-- `RES 1,(HL)` (R244). -/
def execRes1AtHl (s : State) : Host.Outcome State Fault Refusal := resAtHl 1 s

/-- `RES 1,A` (R243). -/
def execRes1A (s : State) : Host.Outcome State Fault Refusal := resReg 1 .a s

/-- `RES 2,B` (R243). -/
def execRes2B (s : State) : Host.Outcome State Fault Refusal := resReg 2 .b s

/-- `RES 2,C` (R243). -/
def execRes2C (s : State) : Host.Outcome State Fault Refusal := resReg 2 .c s

/-- `RES 2,D` (R243). -/
def execRes2D (s : State) : Host.Outcome State Fault Refusal := resReg 2 .d s

/-- `RES 2,E` (R243). -/
def execRes2E (s : State) : Host.Outcome State Fault Refusal := resReg 2 .e s

/-- `RES 2,H` (R243). -/
def execRes2H (s : State) : Host.Outcome State Fault Refusal := resReg 2 .h s

/-- `RES 2,L` (R243). -/
def execRes2L (s : State) : Host.Outcome State Fault Refusal := resReg 2 .l s

/-- `RES 2,(HL)` (R244). -/
def execRes2AtHl (s : State) : Host.Outcome State Fault Refusal := resAtHl 2 s

/-- `RES 2,A` (R243). -/
def execRes2A (s : State) : Host.Outcome State Fault Refusal := resReg 2 .a s

/-- `RES 3,B` (R243). -/
def execRes3B (s : State) : Host.Outcome State Fault Refusal := resReg 3 .b s

/-- `RES 3,C` (R243). -/
def execRes3C (s : State) : Host.Outcome State Fault Refusal := resReg 3 .c s

/-- `RES 3,D` (R243). -/
def execRes3D (s : State) : Host.Outcome State Fault Refusal := resReg 3 .d s

/-- `RES 3,E` (R243). -/
def execRes3E (s : State) : Host.Outcome State Fault Refusal := resReg 3 .e s

/-- `RES 3,H` (R243). -/
def execRes3H (s : State) : Host.Outcome State Fault Refusal := resReg 3 .h s

/-- `RES 3,L` (R243). -/
def execRes3L (s : State) : Host.Outcome State Fault Refusal := resReg 3 .l s

/-- `RES 3,(HL)` (R244). -/
def execRes3AtHl (s : State) : Host.Outcome State Fault Refusal := resAtHl 3 s

/-- `RES 3,A` (R243). -/
def execRes3A (s : State) : Host.Outcome State Fault Refusal := resReg 3 .a s

/-- `RES 4,B` (R243). -/
def execRes4B (s : State) : Host.Outcome State Fault Refusal := resReg 4 .b s

/-- `RES 4,C` (R243). -/
def execRes4C (s : State) : Host.Outcome State Fault Refusal := resReg 4 .c s

/-- `RES 4,D` (R243). -/
def execRes4D (s : State) : Host.Outcome State Fault Refusal := resReg 4 .d s

/-- `RES 4,E` (R243). -/
def execRes4E (s : State) : Host.Outcome State Fault Refusal := resReg 4 .e s

/-- `RES 4,H` (R243). -/
def execRes4H (s : State) : Host.Outcome State Fault Refusal := resReg 4 .h s

/-- `RES 4,L` (R243). -/
def execRes4L (s : State) : Host.Outcome State Fault Refusal := resReg 4 .l s

/-- `RES 4,(HL)` (R244). -/
def execRes4AtHl (s : State) : Host.Outcome State Fault Refusal := resAtHl 4 s

/-- `RES 4,A` (R243). -/
def execRes4A (s : State) : Host.Outcome State Fault Refusal := resReg 4 .a s

/-- `RES 5,B` (R243). -/
def execRes5B (s : State) : Host.Outcome State Fault Refusal := resReg 5 .b s

/-- `RES 5,C` (R243). -/
def execRes5C (s : State) : Host.Outcome State Fault Refusal := resReg 5 .c s

/-- `RES 5,D` (R243). -/
def execRes5D (s : State) : Host.Outcome State Fault Refusal := resReg 5 .d s

/-- `RES 5,E` (R243). -/
def execRes5E (s : State) : Host.Outcome State Fault Refusal := resReg 5 .e s

/-- `RES 5,H` (R243). -/
def execRes5H (s : State) : Host.Outcome State Fault Refusal := resReg 5 .h s

/-- `RES 5,L` (R243). -/
def execRes5L (s : State) : Host.Outcome State Fault Refusal := resReg 5 .l s

/-- `RES 5,(HL)` (R244). -/
def execRes5AtHl (s : State) : Host.Outcome State Fault Refusal := resAtHl 5 s

/-- `RES 5,A` (R243). -/
def execRes5A (s : State) : Host.Outcome State Fault Refusal := resReg 5 .a s

/-- `RES 6,B` (R243). -/
def execRes6B (s : State) : Host.Outcome State Fault Refusal := resReg 6 .b s

/-- `RES 6,C` (R243). -/
def execRes6C (s : State) : Host.Outcome State Fault Refusal := resReg 6 .c s

/-- `RES 6,D` (R243). -/
def execRes6D (s : State) : Host.Outcome State Fault Refusal := resReg 6 .d s

/-- `RES 6,E` (R243). -/
def execRes6E (s : State) : Host.Outcome State Fault Refusal := resReg 6 .e s

/-- `RES 6,H` (R243). -/
def execRes6H (s : State) : Host.Outcome State Fault Refusal := resReg 6 .h s

/-- `RES 6,L` (R243). -/
def execRes6L (s : State) : Host.Outcome State Fault Refusal := resReg 6 .l s

/-- `RES 6,(HL)` (R244). -/
def execRes6AtHl (s : State) : Host.Outcome State Fault Refusal := resAtHl 6 s

/-- `RES 6,A` (R243). -/
def execRes6A (s : State) : Host.Outcome State Fault Refusal := resReg 6 .a s

/-- `RES 7,B` (R243). -/
def execRes7B (s : State) : Host.Outcome State Fault Refusal := resReg 7 .b s

/-- `RES 7,C` (R243). -/
def execRes7C (s : State) : Host.Outcome State Fault Refusal := resReg 7 .c s

/-- `RES 7,D` (R243). -/
def execRes7D (s : State) : Host.Outcome State Fault Refusal := resReg 7 .d s

/-- `RES 7,E` (R243). -/
def execRes7E (s : State) : Host.Outcome State Fault Refusal := resReg 7 .e s

/-- `RES 7,H` (R243). -/
def execRes7H (s : State) : Host.Outcome State Fault Refusal := resReg 7 .h s

/-- `RES 7,L` (R243). -/
def execRes7L (s : State) : Host.Outcome State Fault Refusal := resReg 7 .l s

/-- `RES 7,(HL)` (R244). -/
def execRes7AtHl (s : State) : Host.Outcome State Fault Refusal := resAtHl 7 s

/-- `RES 7,A` (R243). -/
def execRes7A (s : State) : Host.Outcome State Fault Refusal := resReg 7 .a s

/-- `SET 0,B` (R245). -/
def execSet0B (s : State) : Host.Outcome State Fault Refusal := setReg 0 .b s

/-- `SET 0,C` (R245). -/
def execSet0C (s : State) : Host.Outcome State Fault Refusal := setReg 0 .c s

/-- `SET 0,D` (R245). -/
def execSet0D (s : State) : Host.Outcome State Fault Refusal := setReg 0 .d s

/-- `SET 0,E` (R245). -/
def execSet0E (s : State) : Host.Outcome State Fault Refusal := setReg 0 .e s

/-- `SET 0,H` (R245). -/
def execSet0H (s : State) : Host.Outcome State Fault Refusal := setReg 0 .h s

/-- `SET 0,L` (R245). -/
def execSet0L (s : State) : Host.Outcome State Fault Refusal := setReg 0 .l s

/-- `SET 0,(HL)` (R246). -/
def execSet0AtHl (s : State) : Host.Outcome State Fault Refusal := setAtHl 0 s

/-- `SET 0,A` (R245). -/
def execSet0A (s : State) : Host.Outcome State Fault Refusal := setReg 0 .a s

/-- `SET 1,B` (R245). -/
def execSet1B (s : State) : Host.Outcome State Fault Refusal := setReg 1 .b s

/-- `SET 1,C` (R245). -/
def execSet1C (s : State) : Host.Outcome State Fault Refusal := setReg 1 .c s

/-- `SET 1,D` (R245). -/
def execSet1D (s : State) : Host.Outcome State Fault Refusal := setReg 1 .d s

/-- `SET 1,E` (R245). -/
def execSet1E (s : State) : Host.Outcome State Fault Refusal := setReg 1 .e s

/-- `SET 1,H` (R245). -/
def execSet1H (s : State) : Host.Outcome State Fault Refusal := setReg 1 .h s

/-- `SET 1,L` (R245). -/
def execSet1L (s : State) : Host.Outcome State Fault Refusal := setReg 1 .l s

/-- `SET 1,(HL)` (R246). -/
def execSet1AtHl (s : State) : Host.Outcome State Fault Refusal := setAtHl 1 s

/-- `SET 1,A` (R245). -/
def execSet1A (s : State) : Host.Outcome State Fault Refusal := setReg 1 .a s

/-- `SET 2,B` (R245). -/
def execSet2B (s : State) : Host.Outcome State Fault Refusal := setReg 2 .b s

/-- `SET 2,C` (R245). -/
def execSet2C (s : State) : Host.Outcome State Fault Refusal := setReg 2 .c s

/-- `SET 2,D` (R245). -/
def execSet2D (s : State) : Host.Outcome State Fault Refusal := setReg 2 .d s

/-- `SET 2,E` (R245). -/
def execSet2E (s : State) : Host.Outcome State Fault Refusal := setReg 2 .e s

/-- `SET 2,H` (R245). -/
def execSet2H (s : State) : Host.Outcome State Fault Refusal := setReg 2 .h s

/-- `SET 2,L` (R245). -/
def execSet2L (s : State) : Host.Outcome State Fault Refusal := setReg 2 .l s

/-- `SET 2,(HL)` (R246). -/
def execSet2AtHl (s : State) : Host.Outcome State Fault Refusal := setAtHl 2 s

/-- `SET 2,A` (R245). -/
def execSet2A (s : State) : Host.Outcome State Fault Refusal := setReg 2 .a s

/-- `SET 3,B` (R245). -/
def execSet3B (s : State) : Host.Outcome State Fault Refusal := setReg 3 .b s

/-- `SET 3,C` (R245). -/
def execSet3C (s : State) : Host.Outcome State Fault Refusal := setReg 3 .c s

/-- `SET 3,D` (R245). -/
def execSet3D (s : State) : Host.Outcome State Fault Refusal := setReg 3 .d s

/-- `SET 3,E` (R245). -/
def execSet3E (s : State) : Host.Outcome State Fault Refusal := setReg 3 .e s

/-- `SET 3,H` (R245). -/
def execSet3H (s : State) : Host.Outcome State Fault Refusal := setReg 3 .h s

/-- `SET 3,L` (R245). -/
def execSet3L (s : State) : Host.Outcome State Fault Refusal := setReg 3 .l s

/-- `SET 3,(HL)` (R246). -/
def execSet3AtHl (s : State) : Host.Outcome State Fault Refusal := setAtHl 3 s

/-- `SET 3,A` (R245). -/
def execSet3A (s : State) : Host.Outcome State Fault Refusal := setReg 3 .a s

/-- `SET 4,B` (R245). -/
def execSet4B (s : State) : Host.Outcome State Fault Refusal := setReg 4 .b s

/-- `SET 4,C` (R245). -/
def execSet4C (s : State) : Host.Outcome State Fault Refusal := setReg 4 .c s

/-- `SET 4,D` (R245). -/
def execSet4D (s : State) : Host.Outcome State Fault Refusal := setReg 4 .d s

/-- `SET 4,E` (R245). -/
def execSet4E (s : State) : Host.Outcome State Fault Refusal := setReg 4 .e s

/-- `SET 4,H` (R245). -/
def execSet4H (s : State) : Host.Outcome State Fault Refusal := setReg 4 .h s

/-- `SET 4,L` (R245). -/
def execSet4L (s : State) : Host.Outcome State Fault Refusal := setReg 4 .l s

/-- `SET 4,(HL)` (R246). -/
def execSet4AtHl (s : State) : Host.Outcome State Fault Refusal := setAtHl 4 s

/-- `SET 4,A` (R245). -/
def execSet4A (s : State) : Host.Outcome State Fault Refusal := setReg 4 .a s

/-- `SET 5,B` (R245). -/
def execSet5B (s : State) : Host.Outcome State Fault Refusal := setReg 5 .b s

/-- `SET 5,C` (R245). -/
def execSet5C (s : State) : Host.Outcome State Fault Refusal := setReg 5 .c s

/-- `SET 5,D` (R245). -/
def execSet5D (s : State) : Host.Outcome State Fault Refusal := setReg 5 .d s

/-- `SET 5,E` (R245). -/
def execSet5E (s : State) : Host.Outcome State Fault Refusal := setReg 5 .e s

/-- `SET 5,H` (R245). -/
def execSet5H (s : State) : Host.Outcome State Fault Refusal := setReg 5 .h s

/-- `SET 5,L` (R245). -/
def execSet5L (s : State) : Host.Outcome State Fault Refusal := setReg 5 .l s

/-- `SET 5,(HL)` (R246). -/
def execSet5AtHl (s : State) : Host.Outcome State Fault Refusal := setAtHl 5 s

/-- `SET 5,A` (R245). -/
def execSet5A (s : State) : Host.Outcome State Fault Refusal := setReg 5 .a s

/-- `SET 6,B` (R245). -/
def execSet6B (s : State) : Host.Outcome State Fault Refusal := setReg 6 .b s

/-- `SET 6,C` (R245). -/
def execSet6C (s : State) : Host.Outcome State Fault Refusal := setReg 6 .c s

/-- `SET 6,D` (R245). -/
def execSet6D (s : State) : Host.Outcome State Fault Refusal := setReg 6 .d s

/-- `SET 6,E` (R245). -/
def execSet6E (s : State) : Host.Outcome State Fault Refusal := setReg 6 .e s

/-- `SET 6,H` (R245). -/
def execSet6H (s : State) : Host.Outcome State Fault Refusal := setReg 6 .h s

/-- `SET 6,L` (R245). -/
def execSet6L (s : State) : Host.Outcome State Fault Refusal := setReg 6 .l s

/-- `SET 6,(HL)` (R246). -/
def execSet6AtHl (s : State) : Host.Outcome State Fault Refusal := setAtHl 6 s

/-- `SET 6,A` (R245). -/
def execSet6A (s : State) : Host.Outcome State Fault Refusal := setReg 6 .a s

/-- `SET 7,B` (R245). -/
def execSet7B (s : State) : Host.Outcome State Fault Refusal := setReg 7 .b s

/-- `SET 7,C` (R245). -/
def execSet7C (s : State) : Host.Outcome State Fault Refusal := setReg 7 .c s

/-- `SET 7,D` (R245). -/
def execSet7D (s : State) : Host.Outcome State Fault Refusal := setReg 7 .d s

/-- `SET 7,E` (R245). -/
def execSet7E (s : State) : Host.Outcome State Fault Refusal := setReg 7 .e s

/-- `SET 7,H` (R245). -/
def execSet7H (s : State) : Host.Outcome State Fault Refusal := setReg 7 .h s

/-- `SET 7,L` (R245). -/
def execSet7L (s : State) : Host.Outcome State Fault Refusal := setReg 7 .l s

/-- `SET 7,(HL)` (R246). -/
def execSet7AtHl (s : State) : Host.Outcome State Fault Refusal := setAtHl 7 s

/-- `SET 7,A` (R245). -/
def execSet7A (s : State) : Host.Outcome State Fault Refusal := setReg 7 .a s

end Sys2Proof.Machine
end

