-- ==== Sys2Proof/Machine/Rotate.lean ====
section
/-! DEFINITION. The accumulator rotates and the CB rotates and shifts (44_rotate_shift_bit.md R220 to R240). -/

namespace Sys2Proof.Machine

/-- An accumulator rotate: `Z` is forced to 0 (R220 to R223). -/
def rotateA (op : RotOp) (s : State) : Host.Outcome State Fault Refusal :=
  let x := rotate op s.a s.cy
  retire 1 ((s.setReg .a x.1).setFlags false false false x.2)

/-- A CB rotate or shift of a register (R225 to R239, odd numbers). -/
def rotateReg (op : RotOp) (r : Reg8) (s : State) : Host.Outcome State Fault Refusal :=
  let x := rotate op (s.getReg r) s.cy
  retire 2 ((s.setReg r x.1).setFlags (decide (x.1 = 0)) false false x.2)

/-- A CB rotate or shift of the byte at `HL`: a read, then a write (R226 to R240, even numbers). -/
def rotateAtHl (op : RotOp) (s : State) : Host.Outcome State Fault Refusal :=
  let x := rotate op (s.busValue s.hl) s.cy
  retire 4 (((s.busRead s.hl).busWrite s.hl x.1).setFlags (decide (x.1 = 0)) false false x.2)

/-! ### The instructions -/

/-- `RLCA` (R220). -/
def execRlca (s : State) : Host.Outcome State Fault Refusal := rotateA .rlc s

/-- `RRCA` (R221). -/
def execRrca (s : State) : Host.Outcome State Fault Refusal := rotateA .rrc s

/-- `RLA` (R222). -/
def execRla (s : State) : Host.Outcome State Fault Refusal := rotateA .rl s

/-- `RRA` (R223). -/
def execRra (s : State) : Host.Outcome State Fault Refusal := rotateA .rr s

/-- `RLC B` (R225). -/
def execRlcB (s : State) : Host.Outcome State Fault Refusal := rotateReg .rlc .b s

/-- `RLC C` (R225). -/
def execRlcC (s : State) : Host.Outcome State Fault Refusal := rotateReg .rlc .c s

/-- `RLC D` (R225). -/
def execRlcD (s : State) : Host.Outcome State Fault Refusal := rotateReg .rlc .d s

/-- `RLC E` (R225). -/
def execRlcE (s : State) : Host.Outcome State Fault Refusal := rotateReg .rlc .e s

/-- `RLC H` (R225). -/
def execRlcH (s : State) : Host.Outcome State Fault Refusal := rotateReg .rlc .h s

/-- `RLC L` (R225). -/
def execRlcL (s : State) : Host.Outcome State Fault Refusal := rotateReg .rlc .l s

/-- `RLC (HL)` (R226). -/
def execRlcAtHl (s : State) : Host.Outcome State Fault Refusal := rotateAtHl .rlc s

/-- `RLC A` (R225). -/
def execRlcA (s : State) : Host.Outcome State Fault Refusal := rotateReg .rlc .a s

/-- `RRC B` (R227). -/
def execRrcB (s : State) : Host.Outcome State Fault Refusal := rotateReg .rrc .b s

/-- `RRC C` (R227). -/
def execRrcC (s : State) : Host.Outcome State Fault Refusal := rotateReg .rrc .c s

/-- `RRC D` (R227). -/
def execRrcD (s : State) : Host.Outcome State Fault Refusal := rotateReg .rrc .d s

/-- `RRC E` (R227). -/
def execRrcE (s : State) : Host.Outcome State Fault Refusal := rotateReg .rrc .e s

/-- `RRC H` (R227). -/
def execRrcH (s : State) : Host.Outcome State Fault Refusal := rotateReg .rrc .h s

/-- `RRC L` (R227). -/
def execRrcL (s : State) : Host.Outcome State Fault Refusal := rotateReg .rrc .l s

/-- `RRC (HL)` (R228). -/
def execRrcAtHl (s : State) : Host.Outcome State Fault Refusal := rotateAtHl .rrc s

/-- `RRC A` (R227). -/
def execRrcA (s : State) : Host.Outcome State Fault Refusal := rotateReg .rrc .a s

/-- `RL B` (R229). -/
def execRlB (s : State) : Host.Outcome State Fault Refusal := rotateReg .rl .b s

/-- `RL C` (R229). -/
def execRlC (s : State) : Host.Outcome State Fault Refusal := rotateReg .rl .c s

/-- `RL D` (R229). -/
def execRlD (s : State) : Host.Outcome State Fault Refusal := rotateReg .rl .d s

/-- `RL E` (R229). -/
def execRlE (s : State) : Host.Outcome State Fault Refusal := rotateReg .rl .e s

/-- `RL H` (R229). -/
def execRlH (s : State) : Host.Outcome State Fault Refusal := rotateReg .rl .h s

/-- `RL L` (R229). -/
def execRlL (s : State) : Host.Outcome State Fault Refusal := rotateReg .rl .l s

/-- `RL (HL)` (R230). -/
def execRlAtHl (s : State) : Host.Outcome State Fault Refusal := rotateAtHl .rl s

/-- `RL A` (R229). -/
def execRlA (s : State) : Host.Outcome State Fault Refusal := rotateReg .rl .a s

/-- `RR B` (R231). -/
def execRrB (s : State) : Host.Outcome State Fault Refusal := rotateReg .rr .b s

/-- `RR C` (R231). -/
def execRrC (s : State) : Host.Outcome State Fault Refusal := rotateReg .rr .c s

/-- `RR D` (R231). -/
def execRrD (s : State) : Host.Outcome State Fault Refusal := rotateReg .rr .d s

/-- `RR E` (R231). -/
def execRrE (s : State) : Host.Outcome State Fault Refusal := rotateReg .rr .e s

/-- `RR H` (R231). -/
def execRrH (s : State) : Host.Outcome State Fault Refusal := rotateReg .rr .h s

/-- `RR L` (R231). -/
def execRrL (s : State) : Host.Outcome State Fault Refusal := rotateReg .rr .l s

/-- `RR (HL)` (R232). -/
def execRrAtHl (s : State) : Host.Outcome State Fault Refusal := rotateAtHl .rr s

/-- `RR A` (R231). -/
def execRrA (s : State) : Host.Outcome State Fault Refusal := rotateReg .rr .a s

/-- `SLA B` (R233). -/
def execSlaB (s : State) : Host.Outcome State Fault Refusal := rotateReg .sla .b s

/-- `SLA C` (R233). -/
def execSlaC (s : State) : Host.Outcome State Fault Refusal := rotateReg .sla .c s

/-- `SLA D` (R233). -/
def execSlaD (s : State) : Host.Outcome State Fault Refusal := rotateReg .sla .d s

/-- `SLA E` (R233). -/
def execSlaE (s : State) : Host.Outcome State Fault Refusal := rotateReg .sla .e s

/-- `SLA H` (R233). -/
def execSlaH (s : State) : Host.Outcome State Fault Refusal := rotateReg .sla .h s

/-- `SLA L` (R233). -/
def execSlaL (s : State) : Host.Outcome State Fault Refusal := rotateReg .sla .l s

/-- `SLA (HL)` (R234). -/
def execSlaAtHl (s : State) : Host.Outcome State Fault Refusal := rotateAtHl .sla s

/-- `SLA A` (R233). -/
def execSlaA (s : State) : Host.Outcome State Fault Refusal := rotateReg .sla .a s

/-- `SRA B` (R235). -/
def execSraB (s : State) : Host.Outcome State Fault Refusal := rotateReg .sra .b s

/-- `SRA C` (R235). -/
def execSraC (s : State) : Host.Outcome State Fault Refusal := rotateReg .sra .c s

/-- `SRA D` (R235). -/
def execSraD (s : State) : Host.Outcome State Fault Refusal := rotateReg .sra .d s

/-- `SRA E` (R235). -/
def execSraE (s : State) : Host.Outcome State Fault Refusal := rotateReg .sra .e s

/-- `SRA H` (R235). -/
def execSraH (s : State) : Host.Outcome State Fault Refusal := rotateReg .sra .h s

/-- `SRA L` (R235). -/
def execSraL (s : State) : Host.Outcome State Fault Refusal := rotateReg .sra .l s

/-- `SRA (HL)` (R236). -/
def execSraAtHl (s : State) : Host.Outcome State Fault Refusal := rotateAtHl .sra s

/-- `SRA A` (R235). -/
def execSraA (s : State) : Host.Outcome State Fault Refusal := rotateReg .sra .a s

/-- `SWAP B` (R237). -/
def execSwapB (s : State) : Host.Outcome State Fault Refusal := rotateReg .swap .b s

/-- `SWAP C` (R237). -/
def execSwapC (s : State) : Host.Outcome State Fault Refusal := rotateReg .swap .c s

/-- `SWAP D` (R237). -/
def execSwapD (s : State) : Host.Outcome State Fault Refusal := rotateReg .swap .d s

/-- `SWAP E` (R237). -/
def execSwapE (s : State) : Host.Outcome State Fault Refusal := rotateReg .swap .e s

/-- `SWAP H` (R237). -/
def execSwapH (s : State) : Host.Outcome State Fault Refusal := rotateReg .swap .h s

/-- `SWAP L` (R237). -/
def execSwapL (s : State) : Host.Outcome State Fault Refusal := rotateReg .swap .l s

/-- `SWAP (HL)` (R238). -/
def execSwapAtHl (s : State) : Host.Outcome State Fault Refusal := rotateAtHl .swap s

/-- `SWAP A` (R237). -/
def execSwapA (s : State) : Host.Outcome State Fault Refusal := rotateReg .swap .a s

/-- `SRL B` (R239). -/
def execSrlB (s : State) : Host.Outcome State Fault Refusal := rotateReg .srl .b s

/-- `SRL C` (R239). -/
def execSrlC (s : State) : Host.Outcome State Fault Refusal := rotateReg .srl .c s

/-- `SRL D` (R239). -/
def execSrlD (s : State) : Host.Outcome State Fault Refusal := rotateReg .srl .d s

/-- `SRL E` (R239). -/
def execSrlE (s : State) : Host.Outcome State Fault Refusal := rotateReg .srl .e s

/-- `SRL H` (R239). -/
def execSrlH (s : State) : Host.Outcome State Fault Refusal := rotateReg .srl .h s

/-- `SRL L` (R239). -/
def execSrlL (s : State) : Host.Outcome State Fault Refusal := rotateReg .srl .l s

/-- `SRL (HL)` (R240). -/
def execSrlAtHl (s : State) : Host.Outcome State Fault Refusal := rotateAtHl .srl s

/-- `SRL A` (R239). -/
def execSrlA (s : State) : Host.Outcome State Fault Refusal := rotateReg .srl .a s

end Sys2Proof.Machine
end

