-- ==== Sys2Proof/Machine/Cpu.lean ====
section
/-! DEFINITION. CPU control, the illegal opcodes and the CB slot of the unprefixed table (46_cpu_control.md R290 to R295,
30_encoding.md R96). -/

namespace Sys2Proof.Machine

/-- What `HALT` with `IME = 0` sees: the requests that matter for the halt bug, and the state after its reads (R291). -/
def haltSample (s : State) : Byte × State :=
  let t := if s.config.haltBugIeGated then s.busRead ieAddr else s
  let ie : Byte := if s.config.haltBugIeGated then s.busValue ieAddr else 0xFF
  (pendingEnabled ie (t.busValue ifAddr), t.busRead ifAddr)

/-- `HALT` (R291). -/
def halt (s : State) : Host.Outcome State Fault Refusal :=
  if s.ime then retire 1 (s.setRunState .halted)
  else
    let r := haltSample s
    if r.1 = 0 then retire 1 (r.2.setRunState .halted) else retire 1 (r.2.setHaltBug true)

/-- `STOP` (R292): the second byte, fetched with the instruction, has no effect. -/
def stopCore (_n : Byte) (s : State) : Host.Outcome State Fault Refusal :=
  retire s.config.stopCycles (s.setRunState .stopped)

/-- The operand that field `z` selects: a register, or (code 6) the byte at `HL` (R84). -/
def regOfCode (z : Nat) : Option Reg8 :=
  match z with
  | 0 => some .b
  | 1 => some .c
  | 2 => some .d
  | 3 => some .e
  | 4 => some .h
  | 5 => some .l
  | 6 => none
  | _ => some .a

/-- The rotate or shift operation that field `y` selects (R94 (b)). -/
def rotOfCode (y : Nat) : RotOp :=
  match y with
  | 0 => .rlc
  | 1 => .rrc
  | 2 => .rl
  | 3 => .rr
  | 4 => .sla
  | 5 => .sra
  | 6 => .swap
  | _ => .srl

/-- The CB instruction whose second opcode byte is `op2`, by the fields `x`, `y`, `z` of that byte (R82, R94, R98). -/
def runCb (op2 : Byte) (s : State) : Host.Outcome State Fault Refusal :=
  let y := op2.toNat / 8 % 8
  match op2.toNat / 64, regOfCode (op2.toNat % 8) with
  | 0, some r => rotateReg (rotOfCode y) r s
  | 0, none => rotateAtHl (rotOfCode y) s
  | 1, some r => bitReg y r s
  | 1, none => bitAtHl y s
  | 2, some r => resReg y r s
  | 2, none => resAtHl y s
  | _, some r => setReg y r s
  | _, none => setAtHl y s

/-- The slot `PREFIX CB` (R96): one more byte is fetched and the CB instruction it selects is run (R90). -/
def runPrefixed (s : State) : Host.Outcome State Fault Refusal :=
  let r := s.fetch8
  runCb r.1 r.2

/-! ### The instructions -/

/-- `NOP` (R290). -/
def execNop (s : State) : Host.Outcome State Fault Refusal := retire 1 s

/-- `STOP` (R292). -/
def execStop (n : Byte) (s : State) : Host.Outcome State Fault Refusal := stopCore n s

/-- `HALT` (R291). -/
def execHalt (s : State) : Host.Outcome State Fault Refusal := halt s

/-- `PREFIX CB` (R96). -/
def execPrefixCb (s : State) : Host.Outcome State Fault Refusal := runPrefixed s

/-- `DI` (R293). -/
def execDi (s : State) : Host.Outcome State Fault Refusal := retire 1 s.disableInterrupts

/-- `EI` (R294). -/
def execEi (s : State) : Host.Outcome State Fault Refusal := retire 1 { s with imeSched := true }

/-- The illegal opcodes (R295): the fault of R312. -/
def execIllegal (_op : Byte) (s : State) : Host.Outcome State Fault Refusal := .next s.raiseIllegal

end Sys2Proof.Machine
end

