-- ==== Sys2Proof/Machine/Load16.lean ====
section
/-! DEFINITION. The 16-bit loads, `PUSH` and `POP` (41_load16_stack.md R142 to R148). -/

namespace Sys2Proof.Machine

/-- `LD rr,nn` (R142). -/
def loadPair (p : Pair16) (nn : Word) (s : State) : Host.Outcome State Fault Refusal :=
  retire 3 (s.setPair p nn)

/-- `LD HL,SP+e` (R147): `Z` is forced to 0. -/
def loadHlSpE (e : Byte) (s : State) : Host.Outcome State Fault Refusal :=
  let sum := addSpE s.sp e
  retire 3 ((s.setHl sum.r).setFlags false false sum.h sum.c)

/-- `PUSH rr` (R145). -/
def pushPair (p : StackPair) (s : State) : Host.Outcome State Fault Refusal :=
  retire 4 (s.push16 (s.getStackPair p))

/-- `POP rr` and `POP AF` (R146, R148). -/
def popPair (p : StackPair) (s : State) : Host.Outcome State Fault Refusal :=
  let r := s.pop16
  retire 3 (r.2.setStackPair p r.1)

/-! ### The instructions -/

/-- `LD BC,nn` (R142). -/
def execLdBcNn (nn : Word) (s : State) : Host.Outcome State Fault Refusal := loadPair .bc nn s

/-- `LD (nn),SP` (R143). -/
def execLdAtNnSp (nn : Word) (s : State) : Host.Outcome State Fault Refusal := retire 5 (s.busWrite16 nn s.sp)

/-- `LD DE,nn` (R142). -/
def execLdDeNn (nn : Word) (s : State) : Host.Outcome State Fault Refusal := loadPair .de nn s

/-- `LD HL,nn` (R142). -/
def execLdHlNn (nn : Word) (s : State) : Host.Outcome State Fault Refusal := loadPair .hl nn s

/-- `LD SP,nn` (R142). -/
def execLdSpNn (nn : Word) (s : State) : Host.Outcome State Fault Refusal := loadPair .sp nn s

/-- `POP BC` (R146). -/
def execPopBc (s : State) : Host.Outcome State Fault Refusal := popPair .bc s

/-- `PUSH BC` (R145). -/
def execPushBc (s : State) : Host.Outcome State Fault Refusal := pushPair .bc s

/-- `POP DE` (R146). -/
def execPopDe (s : State) : Host.Outcome State Fault Refusal := popPair .de s

/-- `PUSH DE` (R145). -/
def execPushDe (s : State) : Host.Outcome State Fault Refusal := pushPair .de s

/-- `POP HL` (R146). -/
def execPopHl (s : State) : Host.Outcome State Fault Refusal := popPair .hl s

/-- `PUSH HL` (R145). -/
def execPushHl (s : State) : Host.Outcome State Fault Refusal := pushPair .hl s

/-- `POP AF` (R148). -/
def execPopAf (s : State) : Host.Outcome State Fault Refusal := popPair .af s

/-- `PUSH AF` (R145). -/
def execPushAf (s : State) : Host.Outcome State Fault Refusal := pushPair .af s

/-- `LD HL,SP+e` (R147). -/
def execLdHlSpE (e : Byte) (s : State) : Host.Outcome State Fault Refusal := loadHlSpE e s

/-- `LD SP,HL` (R144). -/
def execLdSpHl (s : State) : Host.Outcome State Fault Refusal := retire 2 (s.setSp s.hl)

end Sys2Proof.Machine
end

