-- ==== Sys2Proof/Machine/Load8.lean ====
section
/-! DEFINITION. The 8-bit loads and stores (40_load8.md R110 to R128). In every meaning `PC` already points past the whole instruction
and the immediates, fetched by the step, are arguments (notes/assumptions/10.md). -/

namespace Sys2Proof.Machine

/-- Put `v` into a register: `LD r,r'`, `LD r,n` (R110, R111). -/
def loadReg (dst : Reg8) (v : Byte) (cycles : Nat) (s : State) : Host.Outcome State Fault Refusal :=
  retire cycles (s.setReg dst v)

/-- Put the byte at `addr` into a register (R112, R115, R116, R119, R120, R122). -/
def loadMem (dst : Reg8) (addr : Word) (cycles : Nat) (s : State) : Host.Outcome State Fault Refusal :=
  retire cycles ((s.busRead addr).setReg dst (s.busValue addr))

/-- Store `v` at `addr` (R113, R114, R117, R118, R121, R123, R124). -/
def storeMem (addr : Word) (v : Byte) (cycles : Nat) (s : State) : Host.Outcome State Fault Refusal :=
  retire cycles (s.busWrite addr v)

/-- Load `A` from the old `HL`, then set `HL` (R125, R126). -/
def loadStep (hl : Word) (s : State) : Host.Outcome State Fault Refusal :=
  retire 2 (((s.busRead s.hl).setReg .a (s.busValue s.hl)).setHl hl)

/-- Store `A` at the old `HL`, then set `HL` (R127, R128). -/
def storeStep (hl : Word) (s : State) : Host.Outcome State Fault Refusal :=
  retire 2 ((s.busWrite s.hl s.a).setHl hl)

/-! ### The instructions -/

/-- `LD (BC),A` (R117). -/
def execLdAtBcA (s : State) : Host.Outcome State Fault Refusal := storeMem s.bc s.a 2 s

/-- `LD B,n` (R111). -/
def execLdBN (n : Byte) (s : State) : Host.Outcome State Fault Refusal := loadReg .b n 2 s

/-- `LD A,(BC)` (R115). -/
def execLdAAtBc (s : State) : Host.Outcome State Fault Refusal := loadMem .a s.bc 2 s

/-- `LD C,n` (R111). -/
def execLdCN (n : Byte) (s : State) : Host.Outcome State Fault Refusal := loadReg .c n 2 s

/-- `LD (DE),A` (R118). -/
def execLdAtDeA (s : State) : Host.Outcome State Fault Refusal := storeMem s.de s.a 2 s

/-- `LD D,n` (R111). -/
def execLdDN (n : Byte) (s : State) : Host.Outcome State Fault Refusal := loadReg .d n 2 s

/-- `LD A,(DE)` (R116). -/
def execLdAAtDe (s : State) : Host.Outcome State Fault Refusal := loadMem .a s.de 2 s

/-- `LD E,n` (R111). -/
def execLdEN (n : Byte) (s : State) : Host.Outcome State Fault Refusal := loadReg .e n 2 s

/-- `LD (HL+),A` (R127). -/
def execLdAtHlIncA (s : State) : Host.Outcome State Fault Refusal := storeStep (s.hl + 1) s

/-- `LD H,n` (R111). -/
def execLdHN (n : Byte) (s : State) : Host.Outcome State Fault Refusal := loadReg .h n 2 s

/-- `LD A,(HL+)` (R125). -/
def execLdAAtHlInc (s : State) : Host.Outcome State Fault Refusal := loadStep (s.hl + 1) s

/-- `LD L,n` (R111). -/
def execLdLN (n : Byte) (s : State) : Host.Outcome State Fault Refusal := loadReg .l n 2 s

/-- `LD (HL-),A` (R128). -/
def execLdAtHlDecA (s : State) : Host.Outcome State Fault Refusal := storeStep (s.hl - 1) s

/-- `LD (HL),n` (R114). -/
def execLdAtHlN (n : Byte) (s : State) : Host.Outcome State Fault Refusal := storeMem s.hl n 3 s

/-- `LD A,(HL-)` (R126). -/
def execLdAAtHlDec (s : State) : Host.Outcome State Fault Refusal := loadStep (s.hl - 1) s

/-- `LD A,n` (R111). -/
def execLdAN (n : Byte) (s : State) : Host.Outcome State Fault Refusal := loadReg .a n 2 s

/-- `LD B,B` (R110). -/
def execLdBB (s : State) : Host.Outcome State Fault Refusal := loadReg .b (s.getReg .b) 1 s

/-- `LD B,C` (R110). -/
def execLdBC (s : State) : Host.Outcome State Fault Refusal := loadReg .b (s.getReg .c) 1 s

/-- `LD B,D` (R110). -/
def execLdBD (s : State) : Host.Outcome State Fault Refusal := loadReg .b (s.getReg .d) 1 s

/-- `LD B,E` (R110). -/
def execLdBE (s : State) : Host.Outcome State Fault Refusal := loadReg .b (s.getReg .e) 1 s

/-- `LD B,H` (R110). -/
def execLdBH (s : State) : Host.Outcome State Fault Refusal := loadReg .b (s.getReg .h) 1 s

/-- `LD B,L` (R110). -/
def execLdBL (s : State) : Host.Outcome State Fault Refusal := loadReg .b (s.getReg .l) 1 s

/-- `LD B,(HL)` (R112). -/
def execLdBAtHl (s : State) : Host.Outcome State Fault Refusal := loadMem .b s.hl 2 s

/-- `LD B,A` (R110). -/
def execLdBA (s : State) : Host.Outcome State Fault Refusal := loadReg .b (s.getReg .a) 1 s

/-- `LD C,B` (R110). -/
def execLdCB (s : State) : Host.Outcome State Fault Refusal := loadReg .c (s.getReg .b) 1 s

/-- `LD C,C` (R110). -/
def execLdCC (s : State) : Host.Outcome State Fault Refusal := loadReg .c (s.getReg .c) 1 s

/-- `LD C,D` (R110). -/
def execLdCD (s : State) : Host.Outcome State Fault Refusal := loadReg .c (s.getReg .d) 1 s

/-- `LD C,E` (R110). -/
def execLdCE (s : State) : Host.Outcome State Fault Refusal := loadReg .c (s.getReg .e) 1 s

/-- `LD C,H` (R110). -/
def execLdCH (s : State) : Host.Outcome State Fault Refusal := loadReg .c (s.getReg .h) 1 s

/-- `LD C,L` (R110). -/
def execLdCL (s : State) : Host.Outcome State Fault Refusal := loadReg .c (s.getReg .l) 1 s

/-- `LD C,(HL)` (R112). -/
def execLdCAtHl (s : State) : Host.Outcome State Fault Refusal := loadMem .c s.hl 2 s

/-- `LD C,A` (R110). -/
def execLdCA (s : State) : Host.Outcome State Fault Refusal := loadReg .c (s.getReg .a) 1 s

/-- `LD D,B` (R110). -/
def execLdDB (s : State) : Host.Outcome State Fault Refusal := loadReg .d (s.getReg .b) 1 s

/-- `LD D,C` (R110). -/
def execLdDC (s : State) : Host.Outcome State Fault Refusal := loadReg .d (s.getReg .c) 1 s

/-- `LD D,D` (R110). -/
def execLdDD (s : State) : Host.Outcome State Fault Refusal := loadReg .d (s.getReg .d) 1 s

/-- `LD D,E` (R110). -/
def execLdDE (s : State) : Host.Outcome State Fault Refusal := loadReg .d (s.getReg .e) 1 s

/-- `LD D,H` (R110). -/
def execLdDH (s : State) : Host.Outcome State Fault Refusal := loadReg .d (s.getReg .h) 1 s

/-- `LD D,L` (R110). -/
def execLdDL (s : State) : Host.Outcome State Fault Refusal := loadReg .d (s.getReg .l) 1 s

/-- `LD D,(HL)` (R112). -/
def execLdDAtHl (s : State) : Host.Outcome State Fault Refusal := loadMem .d s.hl 2 s

/-- `LD D,A` (R110). -/
def execLdDA (s : State) : Host.Outcome State Fault Refusal := loadReg .d (s.getReg .a) 1 s

/-- `LD E,B` (R110). -/
def execLdEB (s : State) : Host.Outcome State Fault Refusal := loadReg .e (s.getReg .b) 1 s

/-- `LD E,C` (R110). -/
def execLdEC (s : State) : Host.Outcome State Fault Refusal := loadReg .e (s.getReg .c) 1 s

/-- `LD E,D` (R110). -/
def execLdED (s : State) : Host.Outcome State Fault Refusal := loadReg .e (s.getReg .d) 1 s

/-- `LD E,E` (R110). -/
def execLdEE (s : State) : Host.Outcome State Fault Refusal := loadReg .e (s.getReg .e) 1 s

/-- `LD E,H` (R110). -/
def execLdEH (s : State) : Host.Outcome State Fault Refusal := loadReg .e (s.getReg .h) 1 s

/-- `LD E,L` (R110). -/
def execLdEL (s : State) : Host.Outcome State Fault Refusal := loadReg .e (s.getReg .l) 1 s

/-- `LD E,(HL)` (R112). -/
def execLdEAtHl (s : State) : Host.Outcome State Fault Refusal := loadMem .e s.hl 2 s

/-- `LD E,A` (R110). -/
def execLdEA (s : State) : Host.Outcome State Fault Refusal := loadReg .e (s.getReg .a) 1 s

/-- `LD H,B` (R110). -/
def execLdHB (s : State) : Host.Outcome State Fault Refusal := loadReg .h (s.getReg .b) 1 s

/-- `LD H,C` (R110). -/
def execLdHC (s : State) : Host.Outcome State Fault Refusal := loadReg .h (s.getReg .c) 1 s

/-- `LD H,D` (R110). -/
def execLdHD (s : State) : Host.Outcome State Fault Refusal := loadReg .h (s.getReg .d) 1 s

/-- `LD H,E` (R110). -/
def execLdHE (s : State) : Host.Outcome State Fault Refusal := loadReg .h (s.getReg .e) 1 s

/-- `LD H,H` (R110). -/
def execLdHH (s : State) : Host.Outcome State Fault Refusal := loadReg .h (s.getReg .h) 1 s

/-- `LD H,L` (R110). -/
def execLdHL (s : State) : Host.Outcome State Fault Refusal := loadReg .h (s.getReg .l) 1 s

/-- `LD H,(HL)` (R112). -/
def execLdHAtHl (s : State) : Host.Outcome State Fault Refusal := loadMem .h s.hl 2 s

/-- `LD H,A` (R110). -/
def execLdHA (s : State) : Host.Outcome State Fault Refusal := loadReg .h (s.getReg .a) 1 s

/-- `LD L,B` (R110). -/
def execLdLB (s : State) : Host.Outcome State Fault Refusal := loadReg .l (s.getReg .b) 1 s

/-- `LD L,C` (R110). -/
def execLdLC (s : State) : Host.Outcome State Fault Refusal := loadReg .l (s.getReg .c) 1 s

/-- `LD L,D` (R110). -/
def execLdLD (s : State) : Host.Outcome State Fault Refusal := loadReg .l (s.getReg .d) 1 s

/-- `LD L,E` (R110). -/
def execLdLE (s : State) : Host.Outcome State Fault Refusal := loadReg .l (s.getReg .e) 1 s

/-- `LD L,H` (R110). -/
def execLdLH (s : State) : Host.Outcome State Fault Refusal := loadReg .l (s.getReg .h) 1 s

/-- `LD L,L` (R110). -/
def execLdLL (s : State) : Host.Outcome State Fault Refusal := loadReg .l (s.getReg .l) 1 s

/-- `LD L,(HL)` (R112). -/
def execLdLAtHl (s : State) : Host.Outcome State Fault Refusal := loadMem .l s.hl 2 s

/-- `LD L,A` (R110). -/
def execLdLA (s : State) : Host.Outcome State Fault Refusal := loadReg .l (s.getReg .a) 1 s

/-- `LD (HL),B` (R113). -/
def execLdAtHlB (s : State) : Host.Outcome State Fault Refusal := storeMem s.hl (s.getReg .b) 2 s

/-- `LD (HL),C` (R113). -/
def execLdAtHlC (s : State) : Host.Outcome State Fault Refusal := storeMem s.hl (s.getReg .c) 2 s

/-- `LD (HL),D` (R113). -/
def execLdAtHlD (s : State) : Host.Outcome State Fault Refusal := storeMem s.hl (s.getReg .d) 2 s

/-- `LD (HL),E` (R113). -/
def execLdAtHlE (s : State) : Host.Outcome State Fault Refusal := storeMem s.hl (s.getReg .e) 2 s

/-- `LD (HL),H` (R113). -/
def execLdAtHlH (s : State) : Host.Outcome State Fault Refusal := storeMem s.hl (s.getReg .h) 2 s

/-- `LD (HL),L` (R113). -/
def execLdAtHlL (s : State) : Host.Outcome State Fault Refusal := storeMem s.hl (s.getReg .l) 2 s

/-- `LD (HL),A` (R113). -/
def execLdAtHlA (s : State) : Host.Outcome State Fault Refusal := storeMem s.hl (s.getReg .a) 2 s

/-- `LD A,B` (R110). -/
def execLdAB (s : State) : Host.Outcome State Fault Refusal := loadReg .a (s.getReg .b) 1 s

/-- `LD A,C` (R110). -/
def execLdAC (s : State) : Host.Outcome State Fault Refusal := loadReg .a (s.getReg .c) 1 s

/-- `LD A,D` (R110). -/
def execLdAD (s : State) : Host.Outcome State Fault Refusal := loadReg .a (s.getReg .d) 1 s

/-- `LD A,E` (R110). -/
def execLdAE (s : State) : Host.Outcome State Fault Refusal := loadReg .a (s.getReg .e) 1 s

/-- `LD A,H` (R110). -/
def execLdAH (s : State) : Host.Outcome State Fault Refusal := loadReg .a (s.getReg .h) 1 s

/-- `LD A,L` (R110). -/
def execLdAL (s : State) : Host.Outcome State Fault Refusal := loadReg .a (s.getReg .l) 1 s

/-- `LD A,(HL)` (R112). -/
def execLdAAtHl (s : State) : Host.Outcome State Fault Refusal := loadMem .a s.hl 2 s

/-- `LD A,A` (R110). -/
def execLdAA (s : State) : Host.Outcome State Fault Refusal := loadReg .a (s.getReg .a) 1 s

/-- `LDH (n),A` (R121). -/
def execLdhAtNA (n : Byte) (s : State) : Host.Outcome State Fault Refusal := storeMem (highPage n) s.a 3 s

/-- `LDH (C),A` (R123). -/
def execLdhAtCA (s : State) : Host.Outcome State Fault Refusal := storeMem (highPage s.c) s.a 2 s

/-- `LD (nn),A` (R124). -/
def execLdAtNnA (nn : Word) (s : State) : Host.Outcome State Fault Refusal := storeMem nn s.a 4 s

/-- `LDH A,(n)` (R120). -/
def execLdhAAtN (n : Byte) (s : State) : Host.Outcome State Fault Refusal := loadMem .a (highPage n) 3 s

/-- `LDH A,(C)` (R122). -/
def execLdhAAtC (s : State) : Host.Outcome State Fault Refusal := loadMem .a (highPage s.c) 2 s

/-- `LD A,(nn)` (R119). -/
def execLdAAtNn (nn : Word) (s : State) : Host.Outcome State Fault Refusal := loadMem .a nn 4 s

end Sys2Proof.Machine
end

