-- ==== Sys2Proof/Machine/Engine.lean ====
section
/-! DEFINITION. The parts of a Step (60_exceptions.md R310): the fetch of an instruction, the instruction phase, the Halted
and Stopped arms, the end of a Step; and the placing of an instruction where the next Step fetches it. -/

namespace Sys2Proof.Machine

/-- The `EI` latch is promoted before the fetch (30_encoding.md R90). -/
def State.promote (s : State) : State :=
  if s.imeSched then { s with ime := true, imeSched := false } else s

/-- Fetch and decode one instruction: the opcode byte, for the CB byte the second opcode byte, then the immediate in
ascending address order (R89, R90, R96, R57). -/
def State.fetchInstr (s : State) : Instr × State :=
  let op := s.fetchOpcode
  if op.1 = cbByte then
    let op2 := op.2.fetch8
    (cbSlot op2.1, op2.2)
  else
    match immediateOf op.1 with
    | .none => (unprefixedSlot op.1 0 0, op.2)
    | .byte =>
      let n := op.2.fetch8
      (unprefixedSlot op.1 n.1 0, n.2)
    | .word =>
      let nn := op.2.fetch16
      (unprefixedSlot op.1 0 nn.1, nn.2)

/-- `InstructionPhase()` (R90). An illegal opcode raises its fault in the state before the Step (R312). -/
def instructionPhase (s : State) : Host.Outcome State Fault Refusal :=
  let r := s.promote.fetchInstr
  if r.1.isIllegal then exec r.1 (s.undo r.2) else exec r.1 r.2

/-- `HALT_STEP_CYCLES` (R320, 00_scope.md R8). -/
def haltStepCycles : Nat := 1

/-- `HaltedArm()`: the state after it and the sample it took (R320). -/
def State.haltedArm (s : State) : State × (Byte × Byte) :=
  let r := s.sampleInterrupts
  let t := r.2.setCycles haltStepCycles
  (if pendingEnabled r.1.1 r.1.2 = 0 then t else t.setRunState .running, r.1)

/-- `StoppedArm(stop_wake)`: no bus access (R322). -/
def State.stoppedArm (s : State) (stopWake : Bool) : State :=
  let t := s.setCycles s.config.stopStepCycles
  if stopWake then t.setRunState .running else t

/-- The input `stop_wake` of the Step that begins in `s` (R322). -/
def State.wakeInput (s : State) : Bool := s.stopWake.headD false

/-- The beginning of a Step: its wake input is taken, and it has reported nothing yet. -/
def State.beginStep (s : State) : State :=
  { s with stepCycles := 0, busAccesses := [], stopWake := s.stopWake.tail }

/-- `CYCLE_COUNT <- CYCLE_COUNT + cycles` (R310, 10_state.md R34). -/
def State.countCycles (s : State) : State := { s with cycleCount := s.cycleCount + s.stepCycles }

/-- The rest of a Step after its arm: the interrupt phase, then the cycle counter (R310). -/
def State.endStep (s : State) (sampled : Option (Byte × Byte)) : State := (s.interruptPhase sampled).countCycles

/-- What follows an instruction phase: nothing if it raised the illegal-opcode fault (R312), else the rest of the Step. -/
def afterInstruction (r : Host.Outcome State Fault Refusal) : Host.Outcome State Fault Refusal :=
  match r with
  | .next t => .next (if t.fault.isSome then t else t.endStep none)
  | .fault f => .fault f
  | .refused x => .refused x

/-- The bytes of a table word laid out as the hardware stores them, up to the longest instruction, zeros above. -/
def placedBytes (nbits w : Nat) : List Byte := (tableBytes nbits w ++ [0x00, 0x00, 0x00]).take 3

/-- The state with bytes stored where the next Step fetches its instruction, and that Step an instruction Step whose reads
the store answers: running, not faulted, no halt bug, no answer pending (notes/assumptions/14.md). -/
def State.placeInstruction (s : State) (bytes : List Byte) : State :=
  { s with
    mem := Memory.writeBytes s.mem s.pc bytes
    runState := .running
    fault := none
    haltBug := false
    busAnswers := [] }

end Sys2Proof.Machine
end

