-- ==== Sys2Proof/Machine/Step.lean ====
section
/-! DEFINITION. The Step (60_exceptions.md R310) and the placing of one instruction for it. -/

namespace Sys2Proof.Machine

/-- One Step: one of three arms by the run state, then the interrupt phase. With the illegal-opcode latch set no Step is
defined (R35, U14), nor in the run state `interruptDispatch` (C7). -/
def step (s : State) : Host.Outcome State Fault Refusal :=
  match s.fault with
  | some addr => .fault (.illegalOpcode addr)
  | none =>
    match s.runState with
    | .running => afterInstruction (instructionPhase s.beginStep)
    | .halted =>
      let r := s.beginStep.haltedArm
      .next (r.1.endStep (some r.2))
    | .stopped => .next ((s.beginStep.stoppedArm s.wakeInput).endStep none)
    | .interruptDispatch => .fault .dispatchInProgress

/-- The state with a table word stored where the next Step fetches (notes/assumptions/14.md). -/
def State.withFetchWord (s : State) (nbits w : Nat) : State := s.placeInstruction (placedBytes nbits w)

end Sys2Proof.Machine
end

