-- ==== Sys2Proof/Safety.lean ====
section
/-! DEFINITION. The terms in which statements about the machine are written: the operand codes of an encoding, the conditions
and flags on the bits of `F`, the invariant of the states a run reaches, what it means that a state keeps a part of another, the
arithmetic of the spec on plain numbers. -/

namespace Sys2Proof

/-! ### Operand codes (30_encoding.md R84 to R86, R94) -/

/-- The code of a register (R84). -/
def Reg8.code : Reg8 → Byte
  | .b => 0
  | .c => 1
  | .d => 2
  | .e => 3
  | .h => 4
  | .l => 5
  | .a => 7

/-- The code of a pair in `rp` (R85). -/
def Pair16.code : Pair16 → Byte
  | .bc => 0
  | .de => 1
  | .hl => 2
  | .sp => 3

/-- The code of a pair in `rp2` (R85). -/
def StackPair.code : StackPair → Byte
  | .bc => 0
  | .de => 1
  | .hl => 2
  | .af => 3

/-- The code of a condition (R86). -/
def Cond.code : Cond → Byte
  | .nz => 0
  | .z => 1
  | .nc => 2
  | .c => 3

/-- The code of an ALU operation (R94 (a)). -/
def AluOp.code : AluOp → Byte
  | .add => 0
  | .adc => 1
  | .sub => 2
  | .sbc => 3
  | .and => 4
  | .xor => 5
  | .or => 6
  | .cp => 7

/-- The code of a CB rotate or shift (R94 (b)). -/
def RotOp.code : RotOp → Byte
  | .rlc => 0
  | .rrc => 1
  | .rl => 2
  | .rr => 3
  | .sla => 4
  | .sra => 5
  | .swap => 6
  | .srl => 7

/-- `Cond(cc)` on the bits of `F`: `Z` is bit 7 and `Cy` bit 4 (R86, 10_state.md R24). -/
def Cond.holds (cc : Cond) (f : Byte) : Bool :=
  match cc with
  | .nz => !f.getLsbD 7
  | .z => f.getLsbD 7
  | .nc => !f.getLsbD 4
  | .c => f.getLsbD 4

/-- `F` as a number, from its four flags (10_state.md R24). -/
def flagsNat (z n h c : Bool) : Nat := 128 * z.toNat + 64 * n.toNat + 32 * h.toNat + 16 * c.toNat

/-- The registers a pair of `rp` is made of. -/
def Pair16.regs : Pair16 → List Reg8
  | .bc => [.b, .c]
  | .de => [.d, .e]
  | .hl => [.h, .l]
  | .sp => []

/-- The general registers a pair of `rp2` is made of (`F` apart). -/
def StackPair.regs : StackPair → List Reg8
  | .bc => [.b, .c]
  | .de => [.d, .e]
  | .hl => [.h, .l]
  | .af => [.a]

/-- The condition an instruction tests, if it has one (R86, 45_control_flow.md R269). -/
def Instr.condition : Instr → Option Cond
  | .jpNzNn _ => some .nz
  | .jpZNn _ => some .z
  | .jpNcNn _ => some .nc
  | .jpCNn _ => some .c
  | .jrNzE _ => some .nz
  | .jrZE _ => some .z
  | .jrNcE _ => some .nc
  | .jrCE _ => some .c
  | .callNzNn _ => some .nz
  | .callZNn _ => some .z
  | .callNcNn _ => some .nc
  | .callCNn _ => some .c
  | .retNz => some .nz
  | .retZ => some .z
  | .retNc => some .nc
  | .retC => some .c
  | _ => none

/-- The functions of 44_rotate_shift_bit.md R224 on plain numbers: the result and the bit moved out. -/
def RotOp.onNat (op : RotOp) (v cin : Nat) : Nat × Nat :=
  match op with
  | .rlc => (v * 2 % 256 + v / 128, v / 128)
  | .rrc => (v / 2 + v % 2 * 128, v % 2)
  | .rl => (v * 2 % 256 + cin, v / 128)
  | .rr => (v / 2 + cin * 128, v % 2)
  | .sla => (v * 2 % 256, v / 128)
  | .sra => (v / 2 + v / 128 * 128, v % 2)
  | .swap => (v % 16 * 16 + v / 16, 0)
  | .srl => (v / 2, v % 2)

namespace Machine

/-! ### The invariant -/

/-- The invariant of 10_state.md R41 with the canonical form of the store: (a) the low nibble of `F` is zero, (b) no Step ends
in `interruptDispatch`, (c) the halt-bug latch is set only in a running core with `IME` and its latch clear, (d) the `EI`
latch is set only in a running core, (e) a latched fault is the address in `PC` of a running core (R312). -/
abbrev State.Inv (s : State) : Prop :=
  Memory.wf s.mem = true ∧ s.f &&& 0x0F = 0 ∧ s.runState ≠ .interruptDispatch
    ∧ (s.haltBug = true → s.runState = .running ∧ s.ime = false ∧ s.imeSched = false)
    ∧ (s.imeSched = true → s.runState = .running)
    ∧ (s.fault = none ∨ (s.fault = some s.pc ∧ s.runState = .running))

/-! ### Frames -/

/-- The access is a read. -/
def BusAccess.isRead : BusAccess → Bool
  | .read _ _ => true
  | .write _ _ => false

/-- What an access does to a plain store. -/
def BusAccess.apply (m : Memory) : BusAccess → Memory
  | .read _ _ => m
  | .write addr v => Memory.write m addr.toNat v

/-- `t` differs from `s`, in its general registers, its bytes of memory and its bus, only so: the registers of `written` may
hold anything, the bytes of `stored` hold what stands there, and the accesses `accesses` were made, in that order, after
those of `s`, each read using up one answer of the environment. -/
structure Frame (s t : State) (written : List Reg8) (stored : List (Word × Byte)) (accesses : List BusAccess) : Prop where
  registers : ∀ r : Reg8, r ∉ written → t.getReg r = s.getReg r
  otherBytes : ∀ addr : Word, addr ∉ stored.map Prod.fst → Memory.read t.mem addr.toNat = Memory.read s.mem addr.toNat
  storedBytes : Memory.wf s.mem = true → ∀ p ∈ stored, Memory.read t.mem p.1.toNat = p.2
  busAccesses : t.busAccesses = s.busAccesses ++ accesses
  busAnswers : t.busAnswers = s.busAnswers.drop (accesses.countP BusAccess.isRead)

/-- `t` keeps of `s` the interrupt enable and its latch, the halt-bug latch, the run state, the cycle counter, the fault
latch, the wake inputs and the parameters. -/
structure KeepsControl (s t : State) : Prop where
  ime : t.ime = s.ime
  imeSched : t.imeSched = s.imeSched
  haltBug : t.haltBug = s.haltBug
  runState : t.runState = s.runState
  cycleCount : t.cycleCount = s.cycleCount
  fault : t.fault = s.fault
  stopWake : t.stopWake = s.stopWake
  config : t.config = s.config

/-- `F` holds these four flags, each at its bit, and a zero low nibble (10_state.md R24). -/
structure FlagsAre (t : State) (z n h c : Bool) : Prop where
  byte : t.f.toNat = flagsNat z n h c
  zero : t.zf = z
  subtract : t.nf = n
  halfCarry : t.hf = h
  carry : t.cy = c
  lowNibble : t.f &&& 0x0F = 0

/-! ### Operand forms, one type for the forms that differ in their operand only -/

/-- The second operand of an ALU operation. -/
inductive AluOperand where
  | reg (r : Reg8)
  | atHl
  | imm (n : Byte)
  deriving DecidableEq, Repr

/-- The instruction. -/
def AluOperand.instr (op : AluOp) : AluOperand → Instr
  | .reg r => .aluReg op r
  | .atHl => .aluAtHl op
  | .imm n => .aluImm op n

/-- Its encoding (R97). -/
def AluOperand.bytes (op : AluOp) : AluOperand → List Byte
  | .reg r => [0x80 + 8 * op.code + r.code]
  | .atHl => [0x86 + 8 * op.code]
  | .imm n => [0xC6 + 8 * op.code, n]

/-- The operand's value in a state. -/
def AluOperand.value (s : State) : AluOperand → Byte
  | .reg r => s.getReg r
  | .atHl => s.busValue s.hl
  | .imm n => n

/-- The accesses its operand makes. -/
def AluOperand.accesses (s : State) : AluOperand → List BusAccess
  | .reg _ => []
  | .atHl => [.read s.hl (s.busValue s.hl)]
  | .imm _ => []

/-- The duration. -/
def AluOperand.cycles : AluOperand → Nat
  | .reg _ => 1
  | .atHl => 2
  | .imm _ => 2

/-- The memory operand of a load or store of `A`. -/
inductive MemOperand where
  | atBc
  | atDe
  | atNn (nn : Word)
  | highN (n : Byte)
  | highC
  deriving DecidableEq, Repr

/-- The load into `A`. -/
def MemOperand.load : MemOperand → Instr
  | .atBc => .ldAAtBc
  | .atDe => .ldAAtDe
  | .atNn nn => .ldAAtNn nn
  | .highN n => .ldhAAtN n
  | .highC => .ldhAAtC

/-- The store of `A`. -/
def MemOperand.store : MemOperand → Instr
  | .atBc => .ldAtBcA
  | .atDe => .ldAtDeA
  | .atNn nn => .ldAtNnA nn
  | .highN n => .ldhAtNA n
  | .highC => .ldhAtCA

/-- The encoding of the load (R97). -/
def MemOperand.loadBytes : MemOperand → List Byte
  | .atBc => [0x0A]
  | .atDe => [0x1A]
  | .atNn nn => [0xFA, lo8 nn, hi8 nn]
  | .highN n => [0xF0, n]
  | .highC => [0xF2]

/-- The encoding of the store (R97). -/
def MemOperand.storeBytes : MemOperand → List Byte
  | .atBc => [0x02]
  | .atDe => [0x12]
  | .atNn nn => [0xEA, lo8 nn, hi8 nn]
  | .highN n => [0xE0, n]
  | .highC => [0xE2]

/-- The effective address (20_memory.md R54). -/
def MemOperand.address (s : State) : MemOperand → Word
  | .atBc => s.bc
  | .atDe => s.de
  | .atNn nn => nn
  | .highN n => ofBytes 0xFF n
  | .highC => ofBytes 0xFF s.c

/-- The duration. -/
def MemOperand.cycles : MemOperand → Nat
  | .atBc => 2
  | .atDe => 2
  | .atNn _ => 4
  | .highN _ => 3
  | .highC => 2

/-! ### The instruction stream -/

/-- Reads of a list of addresses, one after another: the bytes and the state after them. -/
def State.readAll (s : State) : List Word → List Byte × State
  | [] => ([], s)
  | addr :: rest =>
    let r := (s.busRead addr).readAll rest
    (s.busValue addr :: r.1, r.2)

/-- The addresses of an instruction's bytes: ascending from `PC`; with the halt-bug latch set the first byte is fetched twice
(30_encoding.md R89). -/
def State.fetchAddrs (s : State) : List Word :=
  if s.haltBug then [s.pc, s.pc, s.pc + 1] else [s.pc, s.pc + 1, s.pc + 2]

/-- `PC` after the fetch of `n` bytes: the halt bug suppresses one increment (R89). -/
def State.pcAfter (s : State) (n : Nat) : Word :=
  if s.haltBug then s.pc + BitVec.ofNat 16 n - 1 else s.pc + BitVec.ofNat 16 n

/-- The state in which the decoded instruction of `n` bytes executes, when the store answers every read: the wake input of the
Step is taken, the `EI` latch is promoted, the bytes are read, `PC` is past them (R90). -/
def State.fetched (s : State) (n : Nat) : State :=
  { s with
    ime := s.ime || s.imeSched
    imeSched := false
    haltBug := false
    pc := s.pcAfter n
    stepCycles := 0
    busAccesses := (s.fetchAddrs.take n).map fun addr => .read addr (Memory.read s.mem addr.toNat)
    stopWake := s.stopWake.tail }

/-! ### Interrupt requests -/

/-- `k` is the least bit number set in `p` (60_exceptions.md R314, R315). -/
def LeastSetBit (p : Byte) (k : Nat) : Prop := p.getLsbD k = true ∧ ∀ j < k, p.getLsbD j = false

/-- The accesses of a dispatch of source `k`, given the byte read from `IF` (R316 (e)). -/
def State.dispatchAccesses (s : State) (k : IntSource) (ifl : Byte) : List BusAccess :=
  [.write ifAddr (ifl &&& (0xFF ^^^ ((1 : Byte) <<< k.bit))), .write (s.sp - 1) (hi8 s.pc), .write (s.sp - 2) (lo8 s.pc)]

end Machine

end Sys2Proof
end

