-- ==== Sys2Proof/Certificates/Slice0/Obligations.lean ====
section
/-! DEFINITION. The statements for the provers. Each says what the docstring's rules of spec/ say; where a clause is the
model's own choice the docstring names the log entry. Every statement about an instruction names the constructors it covers
through the forms of Decode.lean (`Instr.ldRegReg` and so on) and Safety.lean. In the state an instruction executes in, PC is past
the whole instruction and the immediates have been read (FetchReadsOneInstruction); bytes of memory are those of the plain store
behind the bus (notes/assumptions/1.md), and each read uses up one entry of the environment's answers, a field of the model's own
(notes/assumptions/3.md). -/

open Sys2Proof Sys2Proof.Machine

/-! ### 8-bit loads and stores -/

/-- O1. LD r,r' copies one register, LD r,n loads the immediate, and nothing else changes (R110). -/
def Obligations.LoadRegister : Prop :=
  ∀ (dst : Reg8) (s : State),
    (∀ src : Reg8,
      encode (.ldRegReg dst src) = [0x40 + 8 * dst.code + src.code] ∧
      ∃ t, exec (.ldRegReg dst src) s = .next t ∧ t.getReg dst = s.getReg src ∧ t.stepCycles = 1
        ∧ t.f = s.f ∧ t.sp = s.sp ∧ t.pc = s.pc ∧ KeepsControl s t ∧ Frame s t [dst] [] []) ∧
    (∀ n : Byte,
      encode (.ldRegImm dst n) = [0x06 + 8 * dst.code, n] ∧
      ∃ t, exec (.ldRegImm dst n) s = .next t ∧ t.getReg dst = n ∧ t.stepCycles = 2
        ∧ t.f = s.f ∧ t.sp = s.sp ∧ t.pc = s.pc ∧ KeepsControl s t ∧ Frame s t [dst] [] [])

/-- O2. LD r,(HL) loads the byte at the old HL (R112). -/
def Obligations.LoadRegisterFromHl : Prop :=
  ∀ (dst : Reg8) (s : State),
    encode (.ldRegAtHl dst) = [0x46 + 8 * dst.code] ∧
    ∃ t, exec (.ldRegAtHl dst) s = .next t ∧ t.getReg dst = s.busValue s.hl ∧ t.stepCycles = 2
      ∧ t.f = s.f ∧ t.sp = s.sp ∧ t.pc = s.pc ∧ KeepsControl s t
      ∧ Frame s t [dst] [] [.read s.hl (s.busValue s.hl)]

/-- O3. LD (HL),r and LD (HL),n store one byte at HL (R113). -/
def Obligations.StoreAtHl : Prop :=
  ∀ s : State,
    (∀ r : Reg8,
      encode (.ldAtHlReg r) = [0x70 + r.code] ∧
      ∃ t, exec (.ldAtHlReg r) s = .next t ∧ t.stepCycles = 2
        ∧ t.f = s.f ∧ t.sp = s.sp ∧ t.pc = s.pc ∧ KeepsControl s t
        ∧ Frame s t [] [(s.hl, s.getReg r)] [.write s.hl (s.getReg r)]) ∧
    (∀ n : Byte,
      encode (.ldAtHlN n) = [0x36, n] ∧
      ∃ t, exec (.ldAtHlN n) s = .next t ∧ t.stepCycles = 3
        ∧ t.f = s.f ∧ t.sp = s.sp ∧ t.pc = s.pc ∧ KeepsControl s t
        ∧ Frame s t [] [(s.hl, n)] [.write s.hl n])

/-- O4. The five loads of A read the byte their address form gives (R115, R116, R122). -/
def Obligations.LoadAccumulator : Prop :=
  ∀ (m : MemOperand) (s : State),
    encode m.load = m.loadBytes ∧
    ∃ t, exec m.load s = .next t ∧ t.a = s.busValue (m.address s) ∧ t.stepCycles = m.cycles
      ∧ t.f = s.f ∧ t.sp = s.sp ∧ t.pc = s.pc ∧ KeepsControl s t
      ∧ Frame s t [.a] [] [.read (m.address s) (s.busValue (m.address s))]

/-- O5. The five stores of A write it at the address their form gives (R117, R118, R123). -/
def Obligations.StoreAccumulator : Prop :=
  ∀ (m : MemOperand) (s : State),
    encode m.store = m.storeBytes ∧
    ∃ t, exec m.store s = .next t ∧ t.stepCycles = m.cycles
      ∧ t.f = s.f ∧ t.sp = s.sp ∧ t.pc = s.pc ∧ KeepsControl s t
      ∧ Frame s t [] [(m.address s, s.a)] [.write (m.address s) s.a]

/-- O6. LD A,(HL+), LD A,(HL-), LD (HL+),A, LD (HL-),A use the old HL, then step it (R125, R126, R127, R128). -/
def Obligations.LoadStoreHlIncrementDecrement : Prop :=
  ∀ s : State,
    (encode .ldAAtHlInc = [0x2A] ∧
      ∃ t, exec .ldAAtHlInc s = .next t ∧ t.a = s.busValue s.hl ∧ t.hl = s.hl + 1 ∧ t.stepCycles = 2
        ∧ t.f = s.f ∧ t.sp = s.sp ∧ t.pc = s.pc ∧ KeepsControl s t
        ∧ Frame s t [.a, .h, .l] [] [.read s.hl (s.busValue s.hl)]) ∧
    (encode .ldAAtHlDec = [0x3A] ∧
      ∃ t, exec .ldAAtHlDec s = .next t ∧ t.a = s.busValue s.hl ∧ t.hl = s.hl - 1 ∧ t.stepCycles = 2
        ∧ t.f = s.f ∧ t.sp = s.sp ∧ t.pc = s.pc ∧ KeepsControl s t
        ∧ Frame s t [.a, .h, .l] [] [.read s.hl (s.busValue s.hl)]) ∧
    (encode .ldAtHlIncA = [0x22] ∧
      ∃ t, exec .ldAtHlIncA s = .next t ∧ t.hl = s.hl + 1 ∧ t.stepCycles = 2
        ∧ t.f = s.f ∧ t.sp = s.sp ∧ t.pc = s.pc ∧ KeepsControl s t
        ∧ Frame s t [.h, .l] [(s.hl, s.a)] [.write s.hl s.a]) ∧
    (encode .ldAtHlDecA = [0x32] ∧
      ∃ t, exec .ldAtHlDecA s = .next t ∧ t.hl = s.hl - 1 ∧ t.stepCycles = 2
        ∧ t.f = s.f ∧ t.sp = s.sp ∧ t.pc = s.pc ∧ KeepsControl s t
        ∧ Frame s t [.h, .l] [(s.hl, s.a)] [.write s.hl s.a])

/-! ### 16-bit loads and the stack -/

/-- O7. LD rr,nn loads a pair or SP, LD SP,HL copies HL to SP (R144). -/
def Obligations.LoadPairAndStackPointer : Prop :=
  ∀ s : State,
    (∀ (p : Pair16) (nn : Word),
      encode (.ldPairImm p nn) = [0x01 + 16 * p.code, lo8 nn, hi8 nn] ∧
      ∃ t, exec (.ldPairImm p nn) s = .next t ∧ t.getPair p = nn ∧ t.stepCycles = 3
        ∧ t.f = s.f ∧ t.sp = (if p = .sp then nn else s.sp) ∧ t.pc = s.pc ∧ KeepsControl s t
        ∧ Frame s t p.regs [] []) ∧
    (encode .ldSpHl = [0xF9] ∧
      ∃ t, exec .ldSpHl s = .next t ∧ t.sp = s.hl ∧ t.stepCycles = 2
        ∧ t.f = s.f ∧ t.pc = s.pc ∧ KeepsControl s t ∧ Frame s t [] [] [])

/-- O8. LD (nn),SP stores SP low byte first, at nn and nn+1 mod 65536 (41_load16_stack.md R143, 20_memory.md R56). -/
def Obligations.StoreStackPointer : Prop :=
  ∀ (nn : Word) (s : State),
    encode (.ldAtNnSp nn) = [0x08, lo8 nn, hi8 nn] ∧
    ∃ t, exec (.ldAtNnSp nn) s = .next t ∧ t.stepCycles = 5
      ∧ t.f = s.f ∧ t.sp = s.sp ∧ t.pc = s.pc ∧ KeepsControl s t
      ∧ Frame s t [] [(nn, lo8 s.sp), (nn + 1, hi8 s.sp)] [.write nn (lo8 s.sp), .write (nn + 1) (hi8 s.sp)]

/-- O9. ADD SP,e and LD HL,SP+e: signed sum, unsigned low-byte carries, Z and N zero (R214). -/
def Obligations.StackPointerPlusDisplacement : Prop :=
  ∀ (e : Byte) (s : State),
    let h := decide (s.sp.toNat % 16 + e.toNat % 16 > 15)
    let c := decide (s.sp.toNat % 256 + e.toNat > 255)
    (encode (.addSpE e) = [0xE8, e] ∧
      ∃ t, exec (.addSpE e) s = .next t ∧ (t.sp.toNat : Int) = ((s.sp.toNat : Int) + e.toInt) % 65536
        ∧ FlagsAre t false false h c ∧ t.stepCycles = 4
        ∧ t.pc = s.pc ∧ KeepsControl s t ∧ Frame s t [] [] []) ∧
    (encode (.ldHlSpE e) = [0xF8, e] ∧
      ∃ t, exec (.ldHlSpE e) s = .next t ∧ (t.hl.toNat : Int) = ((s.sp.toNat : Int) + e.toInt) % 65536
        ∧ FlagsAre t false false h c ∧ t.stepCycles = 3
        ∧ t.sp = s.sp ∧ t.pc = s.pc ∧ KeepsControl s t ∧ Frame s t [.h, .l] [] [])

/-- O10. PUSH rr writes the high register at SP-1, then the low one at SP-2 (R145). -/
def Obligations.PushWritesHighThenLow : Prop :=
  ∀ (p : StackPair) (s : State),
    let w := s.getStackPair p
    encode (.push p) = [0xC5 + 16 * p.code] ∧
    lo8 (s.getStackPair .af) = s.f &&& 0xF0 ∧
    ∃ t, exec (.push p) s = .next t ∧ t.sp = s.sp - 2 ∧ t.stepCycles = 4
      ∧ t.f = s.f ∧ t.pc = s.pc ∧ KeepsControl s t
      ∧ Frame s t [] [(s.sp - 1, hi8 w), (s.sp - 2, lo8 w)] [.write (s.sp - 1) (hi8 w), .write (s.sp - 2) (lo8 w)]

/-- O11. POP rr reads the low register at SP, then the high one at SP+1; POP AF drops the low nibble (R146, R148). -/
def Obligations.PopReadsLowThenHigh : Prop :=
  ∀ (p : StackPair) (s : State),
    let lo := s.busValue s.sp
    let hi := (s.busRead s.sp).busValue (s.sp + 1)
    encode (.pop p) = [0xC1 + 16 * p.code] ∧
    ∃ t, exec (.pop p) s = .next t
      ∧ t.getStackPair p = ofBytes hi (if p = .af then lo &&& 0xF0 else lo)
      ∧ t.f = (if p = .af then lo &&& 0xF0 else s.f)
      ∧ t.sp = s.sp + 2 ∧ t.stepCycles = 3 ∧ t.pc = s.pc ∧ KeepsControl s t
      ∧ Frame s t p.regs [] [.read s.sp lo, .read (s.sp + 1) hi]

/-- O12. A pop after a push returns the pushed value and restores SP, wherever SP points (41_load16_stack.md R141,
41_load16_stack.md R140, 20_memory.md R68). -/
def Obligations.PopReturnsWhatPushStored : Prop :=
  ∀ (w : Word) (s : State), s.busAnswers = [] → Memory.wf s.mem = true →
    let r := (s.push16 w).pop16
    r.1 = w ∧ r.2.sp = s.sp ∧ r.2.pc = s.pc ∧ r.2.f = s.f ∧ (∀ x, r.2.getReg x = s.getReg x) ∧ KeepsControl s r.2

/-! ### 8-bit arithmetic and logic -/

/-- O13. ADD and ADC: sum mod 256, Z from it, N = 0, carries out of bits 3 and 7 (R160, R162, R163, R165, R166). -/
def Obligations.AddAndAddWithCarry : Prop :=
  ∀ (withCarry : Bool) (x : AluOperand) (s : State),
    let op : AluOp := if withCarry then .adc else .add
    let a := s.a.toNat
    let b := (x.value s).toNat
    let cin := if withCarry then s.cy.toNat else 0
    encode (x.instr op) = x.bytes op ∧
    ∃ t, exec (x.instr op) s = .next t ∧ t.a.toNat = (a + b + cin) % 256
      ∧ FlagsAre t (decide ((a + b + cin) % 256 = 0)) false (decide (a % 16 + b % 16 + cin > 15)) (decide (a + b + cin > 255))
      ∧ t.stepCycles = x.cycles ∧ t.sp = s.sp ∧ t.pc = s.pc ∧ KeepsControl s t
      ∧ Frame s t [.a] [] (x.accesses s)

/-- O14. SUB and SBC: difference mod 256, Z from it, N = 1, borrows from bits 4 and 8 (R161, R168, R169, R171, R172). -/
def Obligations.SubtractAndSubtractWithBorrow : Prop :=
  ∀ (withBorrow : Bool) (x : AluOperand) (s : State),
    let op : AluOp := if withBorrow then .sbc else .sub
    let a := s.a.toNat
    let b := (x.value s).toNat
    let cin := if withBorrow then s.cy.toNat else 0
    let d : Int := (a : Int) - b - cin
    encode (x.instr op) = x.bytes op ∧
    ∃ t, exec (x.instr op) s = .next t ∧ (t.a.toNat : Int) = d % 256
      ∧ FlagsAre t (decide (d % 256 = 0)) true (decide (a % 16 < b % 16 + cin)) (decide (d < 0))
      ∧ t.stepCycles = x.cycles ∧ t.sp = s.sp ∧ t.pc = s.pc ∧ KeepsControl s t
      ∧ Frame s t [.a] [] (x.accesses s)

/-- O15. CP: the flags of a subtraction, A not written (R183, R184). -/
def Obligations.CompareWritesFlagsOnly : Prop :=
  ∀ (x : AluOperand) (s : State),
    let a := s.a.toNat
    let b := (x.value s).toNat
    encode (x.instr .cp) = x.bytes .cp ∧
    ∃ t, exec (x.instr .cp) s = .next t
      ∧ FlagsAre t (decide (a = b)) true (decide (a % 16 < b % 16)) (decide (a < b))
      ∧ t.stepCycles = x.cycles ∧ t.sp = s.sp ∧ t.pc = s.pc ∧ KeepsControl s t
      ∧ Frame s t [] [] (x.accesses s)

/-- O16. AND, XOR, OR: A and Z from the bitwise result, Hf = 1 for AND only, N = Cy = 0 (R174, R175, R177, R178, R180,
R181). -/
def Obligations.LogicOperations : Prop :=
  ∀ (x : AluOperand) (s : State),
    let b := x.value s
    (encode (x.instr .and) = x.bytes .and ∧
      ∃ t, exec (x.instr .and) s = .next t ∧ t.a = s.a &&& b
        ∧ FlagsAre t (decide (s.a &&& b = 0)) false true false
        ∧ t.stepCycles = x.cycles ∧ t.sp = s.sp ∧ t.pc = s.pc ∧ KeepsControl s t ∧ Frame s t [.a] [] (x.accesses s)) ∧
    (encode (x.instr .xor) = x.bytes .xor ∧
      ∃ t, exec (x.instr .xor) s = .next t ∧ t.a = s.a ^^^ b
        ∧ FlagsAre t (decide (s.a = b)) false false false
        ∧ t.stepCycles = x.cycles ∧ t.sp = s.sp ∧ t.pc = s.pc ∧ KeepsControl s t ∧ Frame s t [.a] [] (x.accesses s)) ∧
    (encode (x.instr .or) = x.bytes .or ∧
      ∃ t, exec (x.instr .or) s = .next t ∧ t.a = s.a ||| b
        ∧ FlagsAre t (decide (s.a = 0 ∧ b = 0)) false false false
        ∧ t.stepCycles = x.cycles ∧ t.sp = s.sp ∧ t.pc = s.pc ∧ KeepsControl s t ∧ Frame s t [.a] [] (x.accesses s))

/-- O17. INC r and DEC r wrap mod 256, set Z and Hf, and keep Cy (R186, R188). -/
def Obligations.IncrementDecrementRegister : Prop :=
  ∀ (r : Reg8) (s : State),
    let v := (s.getReg r).toNat
    (encode (.incReg r) = [0x04 + 8 * r.code] ∧
      ∃ t, exec (.incReg r) s = .next t ∧ (t.getReg r).toNat = (v + 1) % 256
        ∧ FlagsAre t (decide (v = 255)) false (decide (v % 16 = 15)) s.cy
        ∧ t.stepCycles = 1 ∧ t.sp = s.sp ∧ t.pc = s.pc ∧ KeepsControl s t ∧ Frame s t [r] [] []) ∧
    (encode (.decReg r) = [0x05 + 8 * r.code] ∧
      ∃ t, exec (.decReg r) s = .next t ∧ ((t.getReg r).toNat : Int) = ((v : Int) - 1) % 256
        ∧ FlagsAre t (decide (v = 1)) true (decide (v % 16 = 0)) s.cy
        ∧ t.stepCycles = 1 ∧ t.sp = s.sp ∧ t.pc = s.pc ∧ KeepsControl s t ∧ Frame s t [r] [] [])

/-- O18. INC (HL) and DEC (HL): a read, then a write of the same address, Cy kept (R187, R189). -/
def Obligations.IncrementDecrementAtHl : Prop :=
  ∀ s : State,
    let v := s.busValue s.hl
    (encode .incAtHl = [0x34] ∧
      ∃ t, exec .incAtHl s = .next t
        ∧ FlagsAre t (decide (v.toNat = 255)) false (decide (v.toNat % 16 = 15)) s.cy
        ∧ t.stepCycles = 3 ∧ t.sp = s.sp ∧ t.pc = s.pc ∧ KeepsControl s t
        ∧ Frame s t [] [(s.hl, v + 1)] [.read s.hl v, .write s.hl (v + 1)]) ∧
    (encode .decAtHl = [0x35] ∧
      ∃ t, exec .decAtHl s = .next t
        ∧ FlagsAre t (decide (v.toNat = 1)) true (decide (v.toNat % 16 = 0)) s.cy
        ∧ t.stepCycles = 3 ∧ t.sp = s.sp ∧ t.pc = s.pc ∧ KeepsControl s t
        ∧ Frame s t [] [(s.hl, v - 1)] [.read s.hl v, .write s.hl (v - 1)])

/-- O19. DAA: the correction of both branches, N kept, Hf cleared, Cy never cleared after an addition (R190). -/
def Obligations.DecimalAdjust : Prop :=
  ∀ s : State,
    let a := s.a.toNat
    let up := (if s.hf = true ∨ a % 16 > 9 then 0x06 else 0) + (if s.cy = true ∨ a > 0x99 then 0x60 else 0)
    let down := (if s.hf = true then 0x06 else 0) + (if s.cy = true then 0x60 else 0)
    let r : Int := if s.nf = true then ((a : Int) - down) % 256 else ((a : Int) + up) % 256
    encode .daa = [0x27] ∧
    ∃ t, exec .daa s = .next t ∧ (t.a.toNat : Int) = r
      ∧ FlagsAre t (decide (r = 0)) s.nf false (decide (s.cy = true ∨ (s.nf = false ∧ a > 0x99)))
      ∧ t.stepCycles = 1 ∧ t.sp = s.sp ∧ t.pc = s.pc ∧ KeepsControl s t ∧ Frame s t [.a] [] []

/-- O20. CPL, SCF, CCF: what each writes and what it keeps (R191, R192, R193). -/
def Obligations.ComplementAndCarryFlagOperations : Prop :=
  ∀ s : State,
    (encode .cpl = [0x2F] ∧
      ∃ t, exec .cpl s = .next t ∧ t.a.toNat = 255 - s.a.toNat ∧ FlagsAre t s.zf true true s.cy
        ∧ t.stepCycles = 1 ∧ t.sp = s.sp ∧ t.pc = s.pc ∧ KeepsControl s t ∧ Frame s t [.a] [] []) ∧
    (encode .scf = [0x37] ∧
      ∃ t, exec .scf s = .next t ∧ FlagsAre t s.zf false false true
        ∧ t.stepCycles = 1 ∧ t.sp = s.sp ∧ t.pc = s.pc ∧ KeepsControl s t ∧ Frame s t [] [] []) ∧
    (encode .ccf = [0x3F] ∧
      ∃ t, exec .ccf s = .next t ∧ FlagsAre t s.zf false false (!s.cy)
        ∧ t.stepCycles = 1 ∧ t.sp = s.sp ∧ t.pc = s.pc ∧ KeepsControl s t ∧ Frame s t [] [] [])

/-! ### 16-bit arithmetic -/

/-- O21. ADD HL,rr: sum mod 65536, carries out of bits 11 and 15, Z kept (R210). -/
def Obligations.AddPairToHl : Prop :=
  ∀ (p : Pair16) (s : State),
    let x := s.hl.toNat
    let y := (s.getPair p).toNat
    encode (.addHlPair p) = [0x09 + 16 * p.code] ∧
    ∃ t, exec (.addHlPair p) s = .next t ∧ t.hl.toNat = (x + y) % 65536
      ∧ FlagsAre t s.zf false (decide (x % 4096 + y % 4096 > 4095)) (decide (x + y > 65535))
      ∧ t.stepCycles = 2 ∧ t.sp = s.sp ∧ t.pc = s.pc ∧ KeepsControl s t ∧ Frame s t [.h, .l] [] []

/-- O22. INC rr and DEC rr wrap mod 65536 and write no flag (R211, R212). -/
def Obligations.IncrementDecrementPair : Prop :=
  ∀ (p : Pair16) (s : State),
    let v := (s.getPair p).toNat
    (encode (.incPair p) = [0x03 + 16 * p.code] ∧
      ∃ t, exec (.incPair p) s = .next t ∧ (t.getPair p).toNat = (v + 1) % 65536 ∧ t.stepCycles = 2
        ∧ t.f = s.f ∧ t.sp = (if p = .sp then s.sp + 1 else s.sp) ∧ t.pc = s.pc ∧ KeepsControl s t
        ∧ Frame s t p.regs [] []) ∧
    (encode (.decPair p) = [0x0B + 16 * p.code] ∧
      ∃ t, exec (.decPair p) s = .next t ∧ ((t.getPair p).toNat : Int) = ((v : Int) - 1) % 65536 ∧ t.stepCycles = 2
        ∧ t.f = s.f ∧ t.sp = (if p = .sp then s.sp - 1 else s.sp) ∧ t.pc = s.pc ∧ KeepsControl s t
        ∧ Frame s t p.regs [] [])

/-- O23. A pair is its first register times 256 plus its second; the flags are bits 7 to 4 of F; AF shows F with a zero
low nibble (10_state.md R22, 10_state.md R24). -/
def Obligations.PairsAreHighRegisterFirst : Prop :=
  ∀ (s : State) (w : Word),
    s.bc.toNat = s.b.toNat * 256 + s.c.toNat ∧ s.de.toNat = s.d.toNat * 256 + s.e.toNat
    ∧ s.hl.toNat = s.h.toNat * 256 + s.l.toNat ∧ s.af.toNat = s.a.toNat * 256 + s.f.toNat / 16 * 16
    ∧ (s.setStackPair .bc w).bc = w ∧ (s.setStackPair .de w).de = w ∧ (s.setStackPair .hl w).hl = w
    ∧ (s.setStackPair .bc w).b = hi8 w ∧ (s.setStackPair .bc w).c = lo8 w
    ∧ (s.setStackPair .de w).d = hi8 w ∧ (s.setStackPair .de w).e = lo8 w
    ∧ (s.setStackPair .hl w).h = hi8 w ∧ (s.setStackPair .hl w).l = lo8 w
    ∧ (s.setStackPair .af w).a = hi8 w ∧ (s.setStackPair .af w).f = lo8 w &&& 0xF0
    ∧ s.zf = s.f.getLsbD 7 ∧ s.nf = s.f.getLsbD 6 ∧ s.hf = s.f.getLsbD 5 ∧ s.cy = s.f.getLsbD 4
    ∧ s.f.toNat = flagsNat s.zf s.nf s.hf s.cy + s.f.toNat % 16
    ∧ (∀ z n h c : Bool, (s.setFlags z n h c).f.toNat = flagsNat z n h c)

/-! ### Rotates, shifts and bit operations -/

/-- O24. RLCA, RRCA, RLA, RRA: the rotate of A, the bit moved out in Cy, Z forced to 0 (R220, R221, R222, R223). -/
def Obligations.RotateAccumulator : Prop :=
  ∀ s : State, ∀ p ∈ [(RotOp.rlc, Instr.rlca), (.rrc, .rrca), (.rl, .rla), (.rr, .rra)],
    let x := p.1.onNat s.a.toNat s.cy.toNat
    encode p.2 = [0x07 + 8 * p.1.code] ∧
    ∃ t, exec p.2 s = .next t ∧ t.a.toNat = x.1 ∧ FlagsAre t false false false (decide (x.2 = 1))
      ∧ t.stepCycles = 1 ∧ t.sp = s.sp ∧ t.pc = s.pc ∧ KeepsControl s t ∧ Frame s t [.a] [] []

/-- O25. CB rotates and shifts of a register: the function table, Z from the result (R224, R225, R227, R229, R231, R233,
R235, R237, R239). -/
def Obligations.RotateShiftRegister : Prop :=
  ∀ (op : RotOp) (r : Reg8) (s : State),
    let x := op.onNat (s.getReg r).toNat s.cy.toNat
    encode (.rotReg op r) = [0xCB, 8 * op.code + r.code] ∧
    ∃ t, exec (.rotReg op r) s = .next t ∧ (t.getReg r).toNat = x.1
      ∧ FlagsAre t (decide (x.1 = 0)) false false (decide (x.2 = 1))
      ∧ t.stepCycles = 2 ∧ t.sp = s.sp ∧ t.pc = s.pc ∧ KeepsControl s t ∧ Frame s t [r] [] []

/-- O26. CB rotates and shifts of the byte at HL: a read, then always a write (R226, R228, R230, R232, R234, R236, R238,
R240). -/
def Obligations.RotateShiftAtHl : Prop :=
  ∀ (op : RotOp) (s : State),
    let v := s.busValue s.hl
    let x := op.onNat v.toNat s.cy.toNat
    encode (.rotAtHl op) = [0xCB, 0x06 + 8 * op.code] ∧
    ∃ t, exec (.rotAtHl op) s = .next t
      ∧ FlagsAre t (decide (x.1 = 0)) false false (decide (x.2 = 1))
      ∧ t.stepCycles = 4 ∧ t.sp = s.sp ∧ t.pc = s.pc ∧ KeepsControl s t
      ∧ Frame s t [] [(s.hl, BitVec.ofNat 8 x.1)] [.read s.hl v, .write s.hl (BitVec.ofNat 8 x.1)]

/-- O27. BIT b,x: Z is the complement of the bit, N = 0, Hf = 1, Cy kept, nothing written (R241, R242). -/
def Obligations.TestBit : Prop :=
  ∀ (b : Fin 8) (s : State),
    (∀ r : Reg8,
      encode (.bitReg b r) = [0xCB, 0x40 + 8 * BitVec.ofNat 8 b + r.code] ∧
      ∃ t, exec (.bitReg b r) s = .next t
        ∧ FlagsAre t (decide ((s.getReg r).toNat / 2 ^ b.val % 2 = 0)) false true s.cy
        ∧ t.stepCycles = 2 ∧ t.sp = s.sp ∧ t.pc = s.pc ∧ KeepsControl s t ∧ Frame s t [] [] []) ∧
    (encode (.bitAtHl b) = [0xCB, 0x46 + 8 * BitVec.ofNat 8 b] ∧
      ∃ t, exec (.bitAtHl b) s = .next t
        ∧ FlagsAre t (decide ((s.busValue s.hl).toNat / 2 ^ b.val % 2 = 0)) false true s.cy
        ∧ t.stepCycles = 3 ∧ t.sp = s.sp ∧ t.pc = s.pc ∧ KeepsControl s t
        ∧ Frame s t [] [] [.read s.hl (s.busValue s.hl)])

/-- O28. RES b,r and SET b,r change one bit of the register and no flag (R243, R245). -/
def Obligations.ResetAndSetRegisterBit : Prop :=
  ∀ (b : Fin 8) (r : Reg8) (s : State),
    (encode (.resReg b r) = [0xCB, 0x80 + 8 * BitVec.ofNat 8 b + r.code] ∧
      ∃ t, exec (.resReg b r) s = .next t
        ∧ (∀ j, j < 8 → (t.getReg r).getLsbD j = (if j = b.val then false else (s.getReg r).getLsbD j))
        ∧ t.stepCycles = 2 ∧ t.f = s.f ∧ t.sp = s.sp ∧ t.pc = s.pc ∧ KeepsControl s t ∧ Frame s t [r] [] []) ∧
    (encode (.setReg b r) = [0xCB, 0xC0 + 8 * BitVec.ofNat 8 b + r.code] ∧
      ∃ t, exec (.setReg b r) s = .next t
        ∧ (∀ j, j < 8 → (t.getReg r).getLsbD j = (if j = b.val then true else (s.getReg r).getLsbD j))
        ∧ t.stepCycles = 2 ∧ t.f = s.f ∧ t.sp = s.sp ∧ t.pc = s.pc ∧ KeepsControl s t ∧ Frame s t [r] [] [])

/-- O29. RES b,(HL) and SET b,(HL): a read, then always a write, one bit changed, no flag (R244, R246). -/
def Obligations.ResetAndSetBitAtHl : Prop :=
  ∀ (b : Fin 8) (s : State),
    let v := s.busValue s.hl
    (encode (.resAtHl b) = [0xCB, 0x86 + 8 * BitVec.ofNat 8 b] ∧
      ∃ (t : State) (w : Byte), exec (.resAtHl b) s = .next t
        ∧ (∀ j, j < 8 → w.getLsbD j = (if j = b.val then false else v.getLsbD j))
        ∧ t.stepCycles = 4 ∧ t.f = s.f ∧ t.sp = s.sp ∧ t.pc = s.pc ∧ KeepsControl s t
        ∧ Frame s t [] [(s.hl, w)] [.read s.hl v, .write s.hl w]) ∧
    (encode (.setAtHl b) = [0xCB, 0xC6 + 8 * BitVec.ofNat 8 b] ∧
      ∃ (t : State) (w : Byte), exec (.setAtHl b) s = .next t
        ∧ (∀ j, j < 8 → w.getLsbD j = (if j = b.val then true else v.getLsbD j))
        ∧ t.stepCycles = 4 ∧ t.f = s.f ∧ t.sp = s.sp ∧ t.pc = s.pc ∧ KeepsControl s t
        ∧ Frame s t [] [(s.hl, w)] [.read s.hl v, .write s.hl w])

/-! ### Control flow -/

/-- O30. JP nn, JP HL, JR e: where PC goes, and nothing else changes (R262). -/
def Obligations.UnconditionalJumps : Prop :=
  ∀ s : State,
    (∀ nn : Word, encode (.jpNn nn) = [0xC3, lo8 nn, hi8 nn] ∧
      ∃ t, exec (.jpNn nn) s = .next t ∧ t.pc = nn ∧ t.stepCycles = 4
        ∧ t.f = s.f ∧ t.sp = s.sp ∧ KeepsControl s t ∧ Frame s t [] [] []) ∧
    (encode .jpHl = [0xE9] ∧
      ∃ t, exec .jpHl s = .next t ∧ t.pc = s.hl ∧ t.stepCycles = 1
        ∧ t.f = s.f ∧ t.sp = s.sp ∧ KeepsControl s t ∧ Frame s t [] [] []) ∧
    (∀ e : Byte, encode (.jrE e) = [0x18, e] ∧
      ∃ t, exec (.jrE e) s = .next t ∧ (t.pc.toNat : Int) = ((s.pc.toNat : Int) + e.toInt) % 65536 ∧ t.stepCycles = 3
        ∧ t.f = s.f ∧ t.sp = s.sp ∧ KeepsControl s t ∧ Frame s t [] [] [])

/-- O31. JP cc,nn and JR cc,e: taken or not by the bit of F that R86 names, with the two durations (45_control_flow.md
R261, 45_control_flow.md R264, 45_control_flow.md R269, 30_encoding.md R86). -/
def Obligations.ConditionalJumps : Prop :=
  ∀ (cc : Cond) (s : State),
    (∀ nn : Word, encode (.jpCond cc nn) = [0xC2 + 8 * cc.code, lo8 nn, hi8 nn] ∧
      ∃ t, exec (.jpCond cc nn) s = .next t ∧ t.pc = (if cc.holds s.f then nn else s.pc)
        ∧ t.stepCycles = (if cc.holds s.f then 4 else 3)
        ∧ t.f = s.f ∧ t.sp = s.sp ∧ KeepsControl s t ∧ Frame s t [] [] []) ∧
    (∀ e : Byte, encode (.jrCond cc e) = [0x20 + 8 * cc.code, e] ∧
      ∃ t, exec (.jrCond cc e) s = .next t
        ∧ (t.pc.toNat : Int) = (if cc.holds s.f then ((s.pc.toNat : Int) + e.toInt) % 65536 else s.pc.toNat)
        ∧ t.stepCycles = (if cc.holds s.f then 3 else 2)
        ∧ t.f = s.f ∧ t.sp = s.sp ∧ KeepsControl s t ∧ Frame s t [] [] [])

/-- O32. CALL nn, CALL cc,nn and RST t push PC, high byte first, and go to the target (R272). -/
def Obligations.Calls : Prop :=
  ∀ s : State,
    (∀ nn : Word, encode (.callNn nn) = [0xCD, lo8 nn, hi8 nn] ∧
      ∃ t, exec (.callNn nn) s = .next t ∧ t.pc = nn ∧ t.sp = s.sp - 2 ∧ t.stepCycles = 6
        ∧ t.f = s.f ∧ KeepsControl s t
        ∧ Frame s t [] [(s.sp - 1, hi8 s.pc), (s.sp - 2, lo8 s.pc)]
          [.write (s.sp - 1) (hi8 s.pc), .write (s.sp - 2) (lo8 s.pc)]) ∧
    (∀ k : Fin 8, encode (.rst k) = [0xC7 + 8 * BitVec.ofNat 8 k] ∧
      ∃ t, exec (.rst k) s = .next t ∧ t.pc.toNat = 8 * k.val ∧ t.sp = s.sp - 2 ∧ t.stepCycles = 4
        ∧ t.f = s.f ∧ KeepsControl s t
        ∧ Frame s t [] [(s.sp - 1, hi8 s.pc), (s.sp - 2, lo8 s.pc)]
          [.write (s.sp - 1) (hi8 s.pc), .write (s.sp - 2) (lo8 s.pc)]) ∧
    (∀ (cc : Cond) (nn : Word), encode (.callCond cc nn) = [0xC4 + 8 * cc.code, lo8 nn, hi8 nn] ∧
      ∃ t, exec (.callCond cc nn) s = .next t ∧ t.f = s.f ∧ KeepsControl s t ∧
        if cc.holds s.f then
          t.pc = nn ∧ t.sp = s.sp - 2 ∧ t.stepCycles = 6
          ∧ Frame s t [] [(s.sp - 1, hi8 s.pc), (s.sp - 2, lo8 s.pc)]
            [.write (s.sp - 1) (hi8 s.pc), .write (s.sp - 2) (lo8 s.pc)]
        else t.pc = s.pc ∧ t.sp = s.sp ∧ t.stepCycles = 3 ∧ Frame s t [] [] [])

/-- O33. RET and RETI pop PC; RETI alone sets IME, at once (R267, R271). -/
def Obligations.Returns : Prop :=
  ∀ s : State,
    let lo := s.busValue s.sp
    let hi := (s.busRead s.sp).busValue (s.sp + 1)
    (encode .ret = [0xC9] ∧
      ∃ t, exec .ret s = .next t ∧ t.pc = ofBytes hi lo ∧ t.sp = s.sp + 2 ∧ t.stepCycles = 4
        ∧ t.f = s.f ∧ KeepsControl s t ∧ Frame s t [] [] [.read s.sp lo, .read (s.sp + 1) hi]) ∧
    (encode .reti = [0xD9] ∧
      ∃ t, exec .reti s = .next t ∧ t.pc = ofBytes hi lo ∧ t.sp = s.sp + 2 ∧ t.stepCycles = 4 ∧ t.ime = true
        ∧ t.f = s.f ∧ KeepsControl { s with ime := true } t ∧ Frame s t [] [] [.read s.sp lo, .read (s.sp + 1) hi])

/-- O34. RET cc: a return when the condition holds, no stack access when it does not (R268). -/
def Obligations.ConditionalReturn : Prop :=
  ∀ (cc : Cond) (s : State),
    let lo := s.busValue s.sp
    let hi := (s.busRead s.sp).busValue (s.sp + 1)
    encode (.retCond cc) = [0xC0 + 8 * cc.code] ∧
    ∃ t, exec (.retCond cc) s = .next t ∧ t.f = s.f ∧ KeepsControl s t ∧
      if cc.holds s.f then
        t.pc = ofBytes hi lo ∧ t.sp = s.sp + 2 ∧ t.stepCycles = 5
        ∧ Frame s t [] [] [.read s.sp lo, .read (s.sp + 1) hi]
      else t.pc = s.pc ∧ t.sp = s.sp ∧ t.stepCycles = 2 ∧ Frame s t [] [] []

/-- O35. RET after CALL comes back to the instruction after the call and restores SP (45_control_flow.md R265,
45_control_flow.md R267, 45_control_flow.md section 1). -/
def Obligations.ReturnResumesAfterCall : Prop :=
  ∀ (nn : Word) (s : State), s.busAnswers = [] → Memory.wf s.mem = true →
    ∃ t u, exec (.callNn nn) s = .next t ∧ exec .ret t = .next u ∧ t.pc = nn ∧ u.pc = s.pc ∧ u.sp = s.sp

/-! ### CPU control -/

/-- O36. NOP changes nothing, DI clears IME and its latch at once, EI sets the latch only (R290, R293). -/
def Obligations.NopDiEi : Prop :=
  ∀ s : State,
    (encode .nop = [0x00] ∧
      ∃ t, exec .nop s = .next t ∧ t.stepCycles = 1
        ∧ t.f = s.f ∧ t.sp = s.sp ∧ t.pc = s.pc ∧ KeepsControl s t ∧ Frame s t [] [] []) ∧
    (encode .di = [0xF3] ∧
      ∃ t, exec .di s = .next t ∧ t.stepCycles = 1 ∧ t.ime = false ∧ t.imeSched = false
        ∧ t.f = s.f ∧ t.sp = s.sp ∧ t.pc = s.pc ∧ KeepsControl { s with ime := false, imeSched := false } t
        ∧ Frame s t [] [] []) ∧
    (encode .ei = [0xFB] ∧
      ∃ t, exec .ei s = .next t ∧ t.stepCycles = 1 ∧ t.ime = s.ime ∧ t.imeSched = true
        ∧ t.f = s.f ∧ t.sp = s.sp ∧ t.pc = s.pc ∧ KeepsControl { s with imeSched := true } t ∧ Frame s t [] [] [])

/-- O37. HALT halts, or with IME = 0 and a request pending sets the halt-bug latch instead (R291). -/
def Obligations.HaltOrHaltBug : Prop :=
  ∀ s : State,
    let gated := s.config.haltBugIeGated
    let ie : Byte := if gated then s.busValue ieAddr else 0xFF
    let ifl := (if gated then s.busRead ieAddr else s).busValue ifAddr
    let bug := !s.ime && decide (ie &&& ifl &&& 0x1F ≠ 0)
    let accesses : List BusAccess :=
      if s.ime then [] else if gated then [.read ieAddr ie, .read ifAddr ifl] else [.read ifAddr ifl]
    encode .halt = [0x76] ∧
    ∃ t, exec .halt s = .next t ∧ t.stepCycles = 1
      ∧ t.runState = (if bug then s.runState else .halted) ∧ t.haltBug = (if bug then true else s.haltBug)
      ∧ t.f = s.f ∧ t.sp = s.sp ∧ t.pc = s.pc
      ∧ KeepsControl { s with runState := t.runState, haltBug := t.haltBug } t ∧ Frame s t [] [] accesses

/-- O38. STOP enters Stopped whatever its second byte, and changes nothing else (46_cpu_control.md R292). -/
def Obligations.StopEntersStopped : Prop :=
  ∀ (n : Byte) (s : State),
    encode (.stop n) = [0x10, n] ∧
    ∃ t, exec (.stop n) s = .next t ∧ t.stepCycles = s.config.stopCycles ∧ t.runState = .stopped
      ∧ t.f = s.f ∧ t.sp = s.sp ∧ t.pc = s.pc ∧ KeepsControl { s with runState := .stopped } t ∧ Frame s t [] [] []

/-- O39. An illegal opcode latches the fault, leaves the state before the Step, and no later Step runs (60_exceptions.md
R312, 46_cpu_control.md R295, 10_state.md R35). The model's own in it: the latch's state is answered as a next state
and the following Step as a fault (notes/assumptions/8.md), and each Step takes its wake input
(notes/assumptions/22.md). -/
def Obligations.IllegalOpcodeStopsForGood : Prop :=
  (∀ op ∈ illegalBytes, ∀ s : State, exec (.illegal op) s = .next { s with fault := some s.pc }) ∧
  (∀ s : State, s.fault = none → s.runState = .running → s.busValue s.pc ∈ illegalBytes →
    step s = .next
      { s with
        fault := some s.pc
        stepCycles := 0
        busAccesses := [.read s.pc (s.busValue s.pc)]
        busAnswers := s.busAnswers.tail
        stopWake := s.stopWake.tail }) ∧
  (∀ (s : State) (addr : Word), s.fault = some addr → step s = .fault (.illegalOpcode addr))

/-- O40. PREFIX CB fetches one more byte and runs the CB instruction it selects (30_encoding.md R96, 30_encoding.md R98).
The constructor stands for the table's slot; the Step decodes the pair at once (notes/assumptions/11.md). -/
def Obligations.PrefixSlotRunsTheSecondByte : Prop :=
  ∀ s : State,
    let op2 := s.busValue s.pc
    let u := { s.busRead s.pc with pc := s.pc + 1 }
    u.busAccesses = s.busAccesses ++ [.read s.pc op2] ∧
    ∃ t, exec .prefixCb s = .next t ∧ exec (cbSlot op2) u = .next t

/-! ### The Step -/

/-- O41. A Step runs the instruction it fetches, which is the one that the bytes at PC decode to (30_encoding.md R90,
60_exceptions.md R310, 30_encoding.md R89, 60_exceptions.md R315). The model's own in it: the environment's inputs are
the lists of notes/assumptions/3.md and 4.md, and a Step takes its wake input whatever its arm
(notes/assumptions/22.md). -/
def Obligations.StepRunsDecodedInstruction : Prop :=
  ∀ s : State, s.fault = none → s.runState = .running →
    (let u : State := { s with
       ime := s.ime || s.imeSched
       imeSched := false
       stepCycles := 0
       busAccesses := []
       stopWake := s.stopWake.tail }
     s.beginStep.promote = u ∧
     (u.fetchInstr.1.isIllegal = false →
       ∃ t, exec u.fetchInstr.1 u.fetchInstr.2 = .next t
         ∧ let v := t.interruptPhase none
           step s = .next { v with cycleCount := v.cycleCount + v.stepCycles })) ∧
    (∀ (i : Instr) (rest : List Byte), s.busAnswers = [] →
      decode (s.fetchAddrs.map fun addr => Memory.read s.mem addr.toNat) = .ok i rest → i.isIllegal = false →
      i.WellFormed ∧
      s.beginStep.promote.fetchInstr = (i, s.fetched (3 - rest.length)) ∧
      ∃ t, exec i (s.fetched (3 - rest.length)) = .next t
        ∧ let v := t.interruptPhase none
          step s = .next { v with cycleCount := v.cycleCount + v.stepCycles })

/-- O42. The fetch asks the bus for exactly the instruction's bytes, in address order (30_encoding.md R87, 30_encoding.md
R88, 30_encoding.md R89, 30_encoding.md R90, 20_memory.md R57). -/
def Obligations.FetchReadsOneInstruction : Prop :=
  ∀ s : State,
    let i := s.fetchInstr.1
    let n := i.descriptor.length
    let r := s.readAll (s.fetchAddrs.take n)
    i.WellFormed ∧ decode r.1 = .ok i [] ∧ s.fetchInstr.2 = { r.2 with pc := s.pcAfter n, haltBug := false }

/-- O43. The Step that executes EI takes no interrupt; the next Step has IME set before it fetches and while its
instruction executes (46_cpu_control.md R294, 10_state.md R31, 30_encoding.md R90, 30_encoding.md R89). The model's
own in it: the environment's answers to the reads are the list of notes/assumptions/3.md. -/
def Obligations.EiDelaysByOneInstruction : Prop :=
  ∀ s : State, s.fault = none → s.runState = .running → s.ime = false → s.imeSched = false → s.busValue s.pc = 0xFB →
    ∃ t, step s = .next t ∧ t.ime = false ∧ t.imeSched = true ∧ t.pc = (if s.haltBug then s.pc else s.pc + 1)
      ∧ t.haltBug = false ∧ t.runState = .running ∧ t.fault = none ∧ t.mem = s.mem
      ∧ t.busAccesses = [.read s.pc 0xFB] ∧ t.busAnswers = s.busAnswers.tail
      ∧ let u := t.beginStep.promote
        u.ime = true ∧ u.imeSched = false ∧ u.fetchInstr.2.ime = true ∧ u.fetchInstr.2.imeSched = false
        ∧ (u.fetchInstr.1.isIllegal = false →
          ∃ v, exec u.fetchInstr.1 u.fetchInstr.2 = .next v
            ∧ let w := v.interruptPhase none
              step t = .next { w with cycleCount := w.cycleCount + w.stepCycles })

/-- O44. A Halted Step samples IE and IF, wakes on an enabled request without asking IME, and takes one cycle
(60_exceptions.md R320). The model's own in it: the inputs taken from the environment are the lists of
notes/assumptions/3.md and 4.md, and a Step takes its wake input whatever its arm (notes/assumptions/22.md). -/
def Obligations.HaltedStep : Prop :=
  ∀ s : State, s.fault = none → s.runState = .halted →
    let ie := s.busValue ieAddr
    let ifl := (s.busRead ieAddr).busValue ifAddr
    let u : State := { s with
      runState := if ie &&& ifl &&& 0x1F = 0 then .halted else .running
      stepCycles := 1
      busAccesses := [.read ieAddr ie, .read ifAddr ifl]
      busAnswers := s.busAnswers.drop 2
      stopWake := s.stopWake.tail }
    ((ie &&& ifl &&& 0x1F = 0 ∨ s.ime = false) → step s = .next { u with cycleCount := s.cycleCount + 1 }) ∧
    (s.ime = true → ∀ k : IntSource, LeastSetBit (ie &&& ifl &&& 0x1F) k.bit →
      step s = .next { u.dispatch k ifl with
        stepCycles := 1 + s.config.intDispatchCycles
        cycleCount := s.cycleCount + (1 + s.config.intDispatchCycles) })

/-- O45. The Stopped arm makes no access, and only the wake input ends the state (60_exceptions.md R322). The model's own
in it: the inputs taken from the environment are the lists of notes/assumptions/3.md and 4.md. -/
def Obligations.StoppedStep : Prop :=
  ∀ s : State, s.fault = none → s.runState = .stopped →
    let u : State := { s with
      stepCycles := s.config.stopStepCycles
      busAccesses := []
      stopWake := s.stopWake.tail }
    (s.wakeInput = false → step s = .next { u with cycleCount := s.cycleCount + s.config.stopStepCycles }) ∧
    (s.wakeInput = true → s.ime = false →
      step s = .next { u with runState := .running, cycleCount := s.cycleCount + s.config.stopStepCycles }) ∧
    (s.wakeInput = true → s.ime = true →
      let ie := s.busValue ieAddr
      let ifl := (s.busRead ieAddr).busValue ifAddr
      let v : State := { u with
        runState := .running
        busAccesses := [.read ieAddr ie, .read ifAddr ifl]
        busAnswers := s.busAnswers.drop 2 }
      (ie &&& ifl &&& 0x1F = 0 → step s = .next { v with cycleCount := s.cycleCount + s.config.stopStepCycles }) ∧
      (∀ k : IntSource, LeastSetBit (ie &&& ifl &&& 0x1F) k.bit →
        step s = .next { v.dispatch k ifl with
          stepCycles := s.config.stopStepCycles + s.config.intDispatchCycles
          cycleCount := s.cycleCount + (s.config.stopStepCycles + s.config.intDispatchCycles) }))

/-- O46. The interrupt phase: none when stopped or masked, else the least set bit of IE & IF & 0x1F (R315, R313). -/
def Obligations.InterruptPhaseSelects : Prop :=
  ∀ s : State,
    ((s.runState = .stopped ∨ s.ime = false) → ∀ sampled, s.interruptPhase sampled = s) ∧
    (s.runState ≠ .stopped → s.ime = true →
      let ie := s.busValue ieAddr
      let ifl := (s.busRead ieAddr).busValue ifAddr
      let u := (s.busRead ieAddr).busRead ifAddr
      (ie &&& ifl &&& 0x1F = 0 → s.interruptPhase none = u) ∧
      (∀ k : IntSource, LeastSetBit (ie &&& ifl &&& 0x1F) k.bit →
        s.interruptPhase none = { u.dispatch k ifl with stepCycles := s.stepCycles + s.config.intDispatchCycles }) ∧
      (∀ ie' ifl' : Byte,
        (ie' &&& ifl' &&& 0x1F = 0 → s.interruptPhase (some (ie', ifl')) = s) ∧
        (∀ k : IntSource, LeastSetBit (ie' &&& ifl' &&& 0x1F) k.bit →
          s.interruptPhase (some (ie', ifl')) =
            { s.dispatch k ifl' with stepCycles := s.stepCycles + s.config.intDispatchCycles }))) ∧
    (∀ p : Byte, p &&& 0x1F ≠ 0 → ∃ k : IntSource, LeastSetBit (p &&& 0x1F) k.bit)

/-- O47. The dispatch: acknowledge one bit, clear IME, push PC, go to the vector, run (R316, R314). -/
def Obligations.DispatchTakesTheInterrupt : Prop :=
  ∀ (s : State) (k : IntSource) (ifl : Byte),
    let t := s.dispatch k ifl
    (IntSource.vBlank.bit = 0 ∧ IntSource.lcdStat.bit = 1 ∧ IntSource.timer.bit = 2 ∧ IntSource.serial.bit = 3
      ∧ IntSource.joypad.bit = 4)
    ∧ (∀ j, j < 8 → (ifl &&& (0xFF ^^^ ((1 : Byte) <<< k.bit))).getLsbD j = (decide (j ≠ k.bit) && ifl.getLsbD j))
    ∧ t.busAccesses = s.busAccesses ++ s.dispatchAccesses k ifl ∧ t.busAnswers = s.busAnswers
    ∧ t.mem = (s.dispatchAccesses k ifl).foldl BusAccess.apply s.mem
    ∧ (∀ addr : Word, addr ≠ ifAddr → addr ≠ s.sp - 1 → addr ≠ s.sp - 2 →
        Memory.read t.mem addr.toNat = Memory.read s.mem addr.toNat)
    ∧ (Memory.wf s.mem = true →
        Memory.read t.mem (s.sp - 1).toNat = hi8 s.pc ∧ Memory.read t.mem (s.sp - 2).toNat = lo8 s.pc)
    ∧ t.pc.toNat = 0x0040 + 8 * k.bit ∧ t.sp = s.sp - 2 ∧ t.runState = .running
    ∧ t.ime = false ∧ t.imeSched = false ∧ (∀ r, t.getReg r = s.getReg r) ∧ t.f = s.f
    ∧ KeepsControl { s with ime := false, imeSched := false, runState := .running } t

/-! ### Reset and the invariant -/

/-- O48. reset(mode): the register values of the mode, the latches clear, no access, memory as it was
(70_reset_and_hazards.md R361, 70_reset_and_hazards.md R362, 70_reset_and_hazards.md R363, 70_reset_and_hazards.md
R364). The model's own in it: the environment's inputs and the parameters, fields of State here, stay as they are
(notes/assumptions/21.md). -/
def Obligations.ResetLoadsTheMode : Prop :=
  ∀ (s : State) (mode : ResetMode),
    let t := s.resetCore mode
    let r := match mode with
      | .bootSkip => s.config.bootSkipRegs
      | .powerOn => s.config.powerOnRegs
    t.pc = (match mode with
      | .bootSkip => 0x0100
      | .powerOn => 0x0000)
    ∧ t.a = r.a ∧ t.f = r.f &&& 0xF0 ∧ t.b = r.b ∧ t.c = r.c ∧ t.d = r.d ∧ t.e = r.e ∧ t.h = r.h ∧ t.l = r.l ∧ t.sp = r.sp
    ∧ t.ime = false ∧ t.imeSched = false ∧ t.haltBug = false ∧ t.runState = .running ∧ t.cycleCount = 0 ∧ t.fault = none
    ∧ t.busAccesses = [] ∧ t.mem = s.mem ∧ t.busAnswers = s.busAnswers ∧ t.stopWake = s.stopWake ∧ t.config = s.config

/-- O49. The state after reset holds the BootSkip values (70_reset_and_hazards.md R361, 70_reset_and_hazards.md R363).
That the machine starts in this mode is the model's choice (notes/assumptions/6.md). -/
def Obligations.ResetStateIsBootSkip : Prop :=
  let s := State.reset
  s.a = 0x01 ∧ s.f = 0xB0 ∧ s.b = 0x00 ∧ s.c = 0x13 ∧ s.d = 0x00 ∧ s.e = 0xD8 ∧ s.h = 0x01 ∧ s.l = 0x4D
  ∧ s.sp = 0xFFFE ∧ s.pc = 0x0100 ∧ s.ime = false ∧ s.imeSched = false ∧ s.haltBug = false
  ∧ s.runState = .running ∧ s.cycleCount = 0 ∧ s.fault = none ∧ s.resetCore .bootSkip = s

/-- O50. The state after reset, in either mode and from any state with canonical memory, meets the invariant (10_state.md
R41, 70_reset_and_hazards.md R363). -/
def Obligations.ResetStateMeetsTheInvariant : Prop :=
  State.reset.Inv ∧ ∀ (s : State) (mode : ResetMode), Memory.wf s.mem = true → (s.resetCore mode).Inv

/-- O51. Every Step keeps the invariant of reachable states (10_state.md R41, 60_exceptions.md R312). -/
def Obligations.StepKeepsTheInvariant : Prop :=
  ∀ s t : State, s.Inv → step s = .next t → t.Inv

/-! ### Rules over all instructions -/

/-- O52. A Step changes memory by exactly its listed writes, in order (20_memory.md R60, 20_memory.md R64). -/
def Obligations.StoresAreExactlyTheLoggedWrites : Prop :=
  ∀ s t : State, step s = .next t →
    t.mem = t.busAccesses.foldl BusAccess.apply s.mem ∧
    ∀ addr : Word, (∀ v, BusAccess.write addr v ∉ t.busAccesses) →
      Memory.read t.mem addr.toNat = Memory.read s.mem addr.toNat

/-- O53. When the environment answers every read, what memory holds does not influence the core (70_reset_and_hazards.md
R379, 20_memory.md R52). -/
def Obligations.StepAsksOnlyTheBus : Prop :=
  ∀ (s : State) (mem' : Memory), 8 ≤ s.busAnswers.length → (∀ x ∈ s.busAnswers, x.isSome = true) →
    match step s, step { s with mem := mem' } with
    | .next t, .next t' => { t' with mem := t.mem } = t
    | .fault f, .fault f' => f = f'
    | .refused x, .refused x' => x = x'
    | _, _ => False

/-- O54. Only the listed instructions write IME, its latch, the run state, the halt-bug latch and the fault latch
(10_state.md R29, 10_state.md R31, 10_state.md R30, 10_state.md R35, 60_exceptions.md R319). -/
def Obligations.ControlStateWriters : Prop :=
  ∀ (i : Instr) (s : State), ∃ t, exec i s = .next t
    ∧ (i ≠ .di → i ≠ .reti → t.ime = s.ime) ∧ (i ≠ .di → i ≠ .ei → t.imeSched = s.imeSched)
    ∧ (i ≠ .halt → (∀ n, i ≠ .stop n) → t.runState = s.runState) ∧ (i ≠ .halt → t.haltBug = s.haltBug)
    ∧ (i.isIllegal = false → t.fault = s.fault)
    ∧ t.config = s.config ∧ t.cycleCount = s.cycleCount ∧ t.stopWake = s.stopWake

/-- O55. The transitions of the run state in a Step (60_exceptions.md R326). -/
def Obligations.RunStateTransitions : Prop :=
  ∀ s t : State, s.fault = none → step s = .next t →
    (s.runState = .stopped → t.runState = if s.wakeInput then .running else .stopped) ∧
    (s.runState = .halted → t.runState =
      if s.busValue ieAddr &&& (s.busRead ieAddr).busValue ifAddr &&& 0x1F = 0 then .halted else .running) ∧
    (s.runState = .running →
      let i := s.beginStep.promote.fetchInstr.1
      (t.runState = .stopped ↔ ∃ n, i = .stop n) ∧ (t.runState = .halted → i = .halt) ∧ t.runState ≠ .interruptDispatch)

/-- O56. Every instruction reports its descriptor's cycles, the not-taken count when its condition fails (30_encoding.md
R83, 30_encoding.md R86, 45_control_flow.md R269, 70_reset_and_hazards.md R370). -/
def Obligations.CyclesAreTheDescriptors : Prop :=
  ∀ (i : Instr) (s : State), i.isIllegal = false → i ≠ .prefixCb → (∀ n, i ≠ .stop n) →
    ∃ t, exec i s = .next t ∧ some t.stepCycles =
      match i.condition with
      | none => i.descriptor.cycles
      | some cc => if cc.holds s.f then i.descriptor.cycles else i.descriptor.cyclesNotTaken

/-- O57. With the parameters' default counts a Step returns 1 to 11 cycles, and the counter advances by them
(60_exceptions.md R327, 10_state.md R34). -/
def Obligations.StepReturnsOneToElevenCycles : Prop :=
  ∀ s t : State, s.fault = none → s.config.stopCycles = 1 → s.config.stopStepCycles = 1 → s.config.intDispatchCycles = 5 →
    step s = .next t → t.fault = none →
    1 ≤ t.stepCycles ∧ t.stepCycles ≤ 11 ∧ t.cycleCount = s.cycleCount + t.stepCycles

/-! ### Encoding -/

/-- O58. Some words of the spec's encoding, bit by bit, decode to their instructions (30_encoding.md R97, 30_encoding.md
R98, 30_encoding.md R99). -/
def Obligations.DecodeWords : Prop :=
  decode [0b01000001] = .ok .ldBC [] ∧ decode [0b00100001, 0x34, 0x12] = .ok (.ldHlNn 0x1234) []
  ∧ decode [0b10001011] = .ok .adcAE [] ∧ decode [0b00101001] = .ok .addHlHl []
  ∧ decode [0xCB, 0b01111100] = .ok .bit7H [] ∧ decode [0xCB, 0b10000110] = .ok .res0AtHl []
  ∧ decode [0b11011010, 0x00, 0x80] = .ok (.jpCNn 0x8000) [] ∧ decode [0b11101111] = .ok .rst28 []
  ∧ decode [0b01110110] = .ok .halt [] ∧ decode [0xD3] = .ok (.illegal 0xD3) [] ∧ decode [0xCB, 0xD3] = .ok .set2E []

/-- O59. Decoding an encoded well-formed instruction gives it back, whatever follows (30_encoding.md R97, 30_encoding.md
R98, 30_encoding.md R95). -/
def Obligations.DecodeOfEncodeIsTheInstruction : Prop :=
  ∀ (i : Instr) (rest : List Byte), i.WellFormed → (i = .prefixCb → rest = []) → decode (encode i ++ rest) = .ok i rest

/-- O60. What decodes is well formed, and encoding it gives the bytes back (30_encoding.md R80, 30_encoding.md R95,
30_encoding.md R103). -/
def Obligations.EncodeOfDecodeIsTheBytes : Prop :=
  ∀ bytes : List Byte,
    match decode bytes with
    | .ok i rest => i.WellFormed ∧ (encode i).length = i.descriptor.length ∧ bytes = encode i ++ rest
    | .rejected .noByte => bytes = []
    | .rejected (.truncated got need) => bytes.length = got ∧ got < need ∧ need ≤ 3
end

