-- ==== Sys2Proof/Laws/State.lean ====
section
/-! SUPPORT. One lemma for each field of the state and each update of it, all by `rfl`, so that no later proof unfolds a record
update; and what the operand accessors read after an update. -/

namespace Sys2Proof.Machine

variable (s : State)

/-! ### `busRead` -/

@[simp] theorem State.busRead_a (addr : Word) : (s.busRead addr).a = s.a := rfl
@[simp] theorem State.busRead_f (addr : Word) : (s.busRead addr).f = s.f := rfl
@[simp] theorem State.busRead_b (addr : Word) : (s.busRead addr).b = s.b := rfl
@[simp] theorem State.busRead_c (addr : Word) : (s.busRead addr).c = s.c := rfl
@[simp] theorem State.busRead_d (addr : Word) : (s.busRead addr).d = s.d := rfl
@[simp] theorem State.busRead_e (addr : Word) : (s.busRead addr).e = s.e := rfl
@[simp] theorem State.busRead_h (addr : Word) : (s.busRead addr).h = s.h := rfl
@[simp] theorem State.busRead_l (addr : Word) : (s.busRead addr).l = s.l := rfl
@[simp] theorem State.busRead_sp (addr : Word) : (s.busRead addr).sp = s.sp := rfl
@[simp] theorem State.busRead_pc (addr : Word) : (s.busRead addr).pc = s.pc := rfl
@[simp] theorem State.busRead_ime (addr : Word) : (s.busRead addr).ime = s.ime := rfl
@[simp] theorem State.busRead_imeSched (addr : Word) : (s.busRead addr).imeSched = s.imeSched := rfl
@[simp] theorem State.busRead_haltBug (addr : Word) : (s.busRead addr).haltBug = s.haltBug := rfl
@[simp] theorem State.busRead_runState (addr : Word) : (s.busRead addr).runState = s.runState := rfl
@[simp] theorem State.busRead_cycleCount (addr : Word) : (s.busRead addr).cycleCount = s.cycleCount := rfl
@[simp] theorem State.busRead_fault (addr : Word) : (s.busRead addr).fault = s.fault := rfl
@[simp] theorem State.busRead_stepCycles (addr : Word) : (s.busRead addr).stepCycles = s.stepCycles := rfl
@[simp] theorem State.busRead_busAccesses (addr : Word) : (s.busRead addr).busAccesses = s.busAccesses ++ [.read addr (s.busValue addr)] := rfl
@[simp] theorem State.busRead_mem (addr : Word) : (s.busRead addr).mem = s.mem := rfl
@[simp] theorem State.busRead_busAnswers (addr : Word) : (s.busRead addr).busAnswers = s.busAnswers.tail := rfl
@[simp] theorem State.busRead_stopWake (addr : Word) : (s.busRead addr).stopWake = s.stopWake := rfl
@[simp] theorem State.busRead_config (addr : Word) : (s.busRead addr).config = s.config := rfl

/-! ### `busWrite` -/

@[simp] theorem State.busWrite_a (addr : Word) (v : Byte) : (s.busWrite addr v).a = s.a := rfl
@[simp] theorem State.busWrite_f (addr : Word) (v : Byte) : (s.busWrite addr v).f = s.f := rfl
@[simp] theorem State.busWrite_b (addr : Word) (v : Byte) : (s.busWrite addr v).b = s.b := rfl
@[simp] theorem State.busWrite_c (addr : Word) (v : Byte) : (s.busWrite addr v).c = s.c := rfl
@[simp] theorem State.busWrite_d (addr : Word) (v : Byte) : (s.busWrite addr v).d = s.d := rfl
@[simp] theorem State.busWrite_e (addr : Word) (v : Byte) : (s.busWrite addr v).e = s.e := rfl
@[simp] theorem State.busWrite_h (addr : Word) (v : Byte) : (s.busWrite addr v).h = s.h := rfl
@[simp] theorem State.busWrite_l (addr : Word) (v : Byte) : (s.busWrite addr v).l = s.l := rfl
@[simp] theorem State.busWrite_sp (addr : Word) (v : Byte) : (s.busWrite addr v).sp = s.sp := rfl
@[simp] theorem State.busWrite_pc (addr : Word) (v : Byte) : (s.busWrite addr v).pc = s.pc := rfl
@[simp] theorem State.busWrite_ime (addr : Word) (v : Byte) : (s.busWrite addr v).ime = s.ime := rfl
@[simp] theorem State.busWrite_imeSched (addr : Word) (v : Byte) : (s.busWrite addr v).imeSched = s.imeSched := rfl
@[simp] theorem State.busWrite_haltBug (addr : Word) (v : Byte) : (s.busWrite addr v).haltBug = s.haltBug := rfl
@[simp] theorem State.busWrite_runState (addr : Word) (v : Byte) : (s.busWrite addr v).runState = s.runState := rfl
@[simp] theorem State.busWrite_cycleCount (addr : Word) (v : Byte) : (s.busWrite addr v).cycleCount = s.cycleCount := rfl
@[simp] theorem State.busWrite_fault (addr : Word) (v : Byte) : (s.busWrite addr v).fault = s.fault := rfl
@[simp] theorem State.busWrite_stepCycles (addr : Word) (v : Byte) : (s.busWrite addr v).stepCycles = s.stepCycles := rfl
@[simp] theorem State.busWrite_busAccesses (addr : Word) (v : Byte) : (s.busWrite addr v).busAccesses = s.busAccesses ++ [.write addr v] := rfl
@[simp] theorem State.busWrite_mem (addr : Word) (v : Byte) : (s.busWrite addr v).mem = Memory.write s.mem addr.toNat v := rfl
@[simp] theorem State.busWrite_busAnswers (addr : Word) (v : Byte) : (s.busWrite addr v).busAnswers = s.busAnswers := rfl
@[simp] theorem State.busWrite_stopWake (addr : Word) (v : Byte) : (s.busWrite addr v).stopWake = s.stopWake := rfl
@[simp] theorem State.busWrite_config (addr : Word) (v : Byte) : (s.busWrite addr v).config = s.config := rfl

/-! ### `setPc` -/

@[simp] theorem State.setPc_a (w : Word) : (s.setPc w).a = s.a := rfl
@[simp] theorem State.setPc_f (w : Word) : (s.setPc w).f = s.f := rfl
@[simp] theorem State.setPc_b (w : Word) : (s.setPc w).b = s.b := rfl
@[simp] theorem State.setPc_c (w : Word) : (s.setPc w).c = s.c := rfl
@[simp] theorem State.setPc_d (w : Word) : (s.setPc w).d = s.d := rfl
@[simp] theorem State.setPc_e (w : Word) : (s.setPc w).e = s.e := rfl
@[simp] theorem State.setPc_h (w : Word) : (s.setPc w).h = s.h := rfl
@[simp] theorem State.setPc_l (w : Word) : (s.setPc w).l = s.l := rfl
@[simp] theorem State.setPc_sp (w : Word) : (s.setPc w).sp = s.sp := rfl
@[simp] theorem State.setPc_pc (w : Word) : (s.setPc w).pc = w := rfl
@[simp] theorem State.setPc_ime (w : Word) : (s.setPc w).ime = s.ime := rfl
@[simp] theorem State.setPc_imeSched (w : Word) : (s.setPc w).imeSched = s.imeSched := rfl
@[simp] theorem State.setPc_haltBug (w : Word) : (s.setPc w).haltBug = s.haltBug := rfl
@[simp] theorem State.setPc_runState (w : Word) : (s.setPc w).runState = s.runState := rfl
@[simp] theorem State.setPc_cycleCount (w : Word) : (s.setPc w).cycleCount = s.cycleCount := rfl
@[simp] theorem State.setPc_fault (w : Word) : (s.setPc w).fault = s.fault := rfl
@[simp] theorem State.setPc_stepCycles (w : Word) : (s.setPc w).stepCycles = s.stepCycles := rfl
@[simp] theorem State.setPc_busAccesses (w : Word) : (s.setPc w).busAccesses = s.busAccesses := rfl
@[simp] theorem State.setPc_mem (w : Word) : (s.setPc w).mem = s.mem := rfl
@[simp] theorem State.setPc_busAnswers (w : Word) : (s.setPc w).busAnswers = s.busAnswers := rfl
@[simp] theorem State.setPc_stopWake (w : Word) : (s.setPc w).stopWake = s.stopWake := rfl
@[simp] theorem State.setPc_config (w : Word) : (s.setPc w).config = s.config := rfl

/-! ### `setSp` -/

@[simp] theorem State.setSp_a (w : Word) : (s.setSp w).a = s.a := rfl
@[simp] theorem State.setSp_f (w : Word) : (s.setSp w).f = s.f := rfl
@[simp] theorem State.setSp_b (w : Word) : (s.setSp w).b = s.b := rfl
@[simp] theorem State.setSp_c (w : Word) : (s.setSp w).c = s.c := rfl
@[simp] theorem State.setSp_d (w : Word) : (s.setSp w).d = s.d := rfl
@[simp] theorem State.setSp_e (w : Word) : (s.setSp w).e = s.e := rfl
@[simp] theorem State.setSp_h (w : Word) : (s.setSp w).h = s.h := rfl
@[simp] theorem State.setSp_l (w : Word) : (s.setSp w).l = s.l := rfl
@[simp] theorem State.setSp_sp (w : Word) : (s.setSp w).sp = w := rfl
@[simp] theorem State.setSp_pc (w : Word) : (s.setSp w).pc = s.pc := rfl
@[simp] theorem State.setSp_ime (w : Word) : (s.setSp w).ime = s.ime := rfl
@[simp] theorem State.setSp_imeSched (w : Word) : (s.setSp w).imeSched = s.imeSched := rfl
@[simp] theorem State.setSp_haltBug (w : Word) : (s.setSp w).haltBug = s.haltBug := rfl
@[simp] theorem State.setSp_runState (w : Word) : (s.setSp w).runState = s.runState := rfl
@[simp] theorem State.setSp_cycleCount (w : Word) : (s.setSp w).cycleCount = s.cycleCount := rfl
@[simp] theorem State.setSp_fault (w : Word) : (s.setSp w).fault = s.fault := rfl
@[simp] theorem State.setSp_stepCycles (w : Word) : (s.setSp w).stepCycles = s.stepCycles := rfl
@[simp] theorem State.setSp_busAccesses (w : Word) : (s.setSp w).busAccesses = s.busAccesses := rfl
@[simp] theorem State.setSp_mem (w : Word) : (s.setSp w).mem = s.mem := rfl
@[simp] theorem State.setSp_busAnswers (w : Word) : (s.setSp w).busAnswers = s.busAnswers := rfl
@[simp] theorem State.setSp_stopWake (w : Word) : (s.setSp w).stopWake = s.stopWake := rfl
@[simp] theorem State.setSp_config (w : Word) : (s.setSp w).config = s.config := rfl

/-! ### `setFlags` -/

@[simp] theorem State.setFlags_a (z n h c : Bool) : (s.setFlags z n h c).a = s.a := rfl
@[simp] theorem State.setFlags_f (z n h c : Bool) : (s.setFlags z n h c).f = packFlags z n h c := rfl
@[simp] theorem State.setFlags_b (z n h c : Bool) : (s.setFlags z n h c).b = s.b := rfl
@[simp] theorem State.setFlags_c (z n h c : Bool) : (s.setFlags z n h c).c = s.c := rfl
@[simp] theorem State.setFlags_d (z n h c : Bool) : (s.setFlags z n h c).d = s.d := rfl
@[simp] theorem State.setFlags_e (z n h c : Bool) : (s.setFlags z n h c).e = s.e := rfl
@[simp] theorem State.setFlags_h (z n h c : Bool) : (s.setFlags z n h c).h = s.h := rfl
@[simp] theorem State.setFlags_l (z n h c : Bool) : (s.setFlags z n h c).l = s.l := rfl
@[simp] theorem State.setFlags_sp (z n h c : Bool) : (s.setFlags z n h c).sp = s.sp := rfl
@[simp] theorem State.setFlags_pc (z n h c : Bool) : (s.setFlags z n h c).pc = s.pc := rfl
@[simp] theorem State.setFlags_ime (z n h c : Bool) : (s.setFlags z n h c).ime = s.ime := rfl
@[simp] theorem State.setFlags_imeSched (z n h c : Bool) : (s.setFlags z n h c).imeSched = s.imeSched := rfl
@[simp] theorem State.setFlags_haltBug (z n h c : Bool) : (s.setFlags z n h c).haltBug = s.haltBug := rfl
@[simp] theorem State.setFlags_runState (z n h c : Bool) : (s.setFlags z n h c).runState = s.runState := rfl
@[simp] theorem State.setFlags_cycleCount (z n h c : Bool) : (s.setFlags z n h c).cycleCount = s.cycleCount := rfl
@[simp] theorem State.setFlags_fault (z n h c : Bool) : (s.setFlags z n h c).fault = s.fault := rfl
@[simp] theorem State.setFlags_stepCycles (z n h c : Bool) : (s.setFlags z n h c).stepCycles = s.stepCycles := rfl
@[simp] theorem State.setFlags_busAccesses (z n h c : Bool) : (s.setFlags z n h c).busAccesses = s.busAccesses := rfl
@[simp] theorem State.setFlags_mem (z n h c : Bool) : (s.setFlags z n h c).mem = s.mem := rfl
@[simp] theorem State.setFlags_busAnswers (z n h c : Bool) : (s.setFlags z n h c).busAnswers = s.busAnswers := rfl
@[simp] theorem State.setFlags_stopWake (z n h c : Bool) : (s.setFlags z n h c).stopWake = s.stopWake := rfl
@[simp] theorem State.setFlags_config (z n h c : Bool) : (s.setFlags z n h c).config = s.config := rfl

/-! ### `setHl` -/

@[simp] theorem State.setHl_a (w : Word) : (s.setHl w).a = s.a := rfl
@[simp] theorem State.setHl_f (w : Word) : (s.setHl w).f = s.f := rfl
@[simp] theorem State.setHl_b (w : Word) : (s.setHl w).b = s.b := rfl
@[simp] theorem State.setHl_c (w : Word) : (s.setHl w).c = s.c := rfl
@[simp] theorem State.setHl_d (w : Word) : (s.setHl w).d = s.d := rfl
@[simp] theorem State.setHl_e (w : Word) : (s.setHl w).e = s.e := rfl
@[simp] theorem State.setHl_h (w : Word) : (s.setHl w).h = hi8 w := rfl
@[simp] theorem State.setHl_l (w : Word) : (s.setHl w).l = lo8 w := rfl
@[simp] theorem State.setHl_sp (w : Word) : (s.setHl w).sp = s.sp := rfl
@[simp] theorem State.setHl_pc (w : Word) : (s.setHl w).pc = s.pc := rfl
@[simp] theorem State.setHl_ime (w : Word) : (s.setHl w).ime = s.ime := rfl
@[simp] theorem State.setHl_imeSched (w : Word) : (s.setHl w).imeSched = s.imeSched := rfl
@[simp] theorem State.setHl_haltBug (w : Word) : (s.setHl w).haltBug = s.haltBug := rfl
@[simp] theorem State.setHl_runState (w : Word) : (s.setHl w).runState = s.runState := rfl
@[simp] theorem State.setHl_cycleCount (w : Word) : (s.setHl w).cycleCount = s.cycleCount := rfl
@[simp] theorem State.setHl_fault (w : Word) : (s.setHl w).fault = s.fault := rfl
@[simp] theorem State.setHl_stepCycles (w : Word) : (s.setHl w).stepCycles = s.stepCycles := rfl
@[simp] theorem State.setHl_busAccesses (w : Word) : (s.setHl w).busAccesses = s.busAccesses := rfl
@[simp] theorem State.setHl_mem (w : Word) : (s.setHl w).mem = s.mem := rfl
@[simp] theorem State.setHl_busAnswers (w : Word) : (s.setHl w).busAnswers = s.busAnswers := rfl
@[simp] theorem State.setHl_stopWake (w : Word) : (s.setHl w).stopWake = s.stopWake := rfl
@[simp] theorem State.setHl_config (w : Word) : (s.setHl w).config = s.config := rfl

/-! ### `push16` -/

@[simp] theorem State.push16_a (w : Word) : (s.push16 w).a = s.a := by simp [State.push16]
@[simp] theorem State.push16_f (w : Word) : (s.push16 w).f = s.f := by simp [State.push16]
@[simp] theorem State.push16_b (w : Word) : (s.push16 w).b = s.b := by simp [State.push16]
@[simp] theorem State.push16_c (w : Word) : (s.push16 w).c = s.c := by simp [State.push16]
@[simp] theorem State.push16_d (w : Word) : (s.push16 w).d = s.d := by simp [State.push16]
@[simp] theorem State.push16_e (w : Word) : (s.push16 w).e = s.e := by simp [State.push16]
@[simp] theorem State.push16_h (w : Word) : (s.push16 w).h = s.h := by simp [State.push16]
@[simp] theorem State.push16_l (w : Word) : (s.push16 w).l = s.l := by simp [State.push16]
@[simp] theorem State.push16_sp (w : Word) : (s.push16 w).sp = s.sp - 1 - 1 := by simp [State.push16]
@[simp] theorem State.push16_pc (w : Word) : (s.push16 w).pc = s.pc := by simp [State.push16]
@[simp] theorem State.push16_ime (w : Word) : (s.push16 w).ime = s.ime := by simp [State.push16]
@[simp] theorem State.push16_imeSched (w : Word) : (s.push16 w).imeSched = s.imeSched := by simp [State.push16]
@[simp] theorem State.push16_haltBug (w : Word) : (s.push16 w).haltBug = s.haltBug := by simp [State.push16]
@[simp] theorem State.push16_runState (w : Word) : (s.push16 w).runState = s.runState := by simp [State.push16]
@[simp] theorem State.push16_cycleCount (w : Word) : (s.push16 w).cycleCount = s.cycleCount := by simp [State.push16]
@[simp] theorem State.push16_fault (w : Word) : (s.push16 w).fault = s.fault := by simp [State.push16]
@[simp] theorem State.push16_stepCycles (w : Word) : (s.push16 w).stepCycles = s.stepCycles := by simp [State.push16]
@[simp] theorem State.push16_busAccesses (w : Word) : (s.push16 w).busAccesses = s.busAccesses ++ [.write (s.sp - 1) (hi8 w)] ++ [.write (s.sp - 1 - 1) (lo8 w)] := by simp [State.push16]
@[simp] theorem State.push16_mem (w : Word) : (s.push16 w).mem = Memory.write (Memory.write s.mem (s.sp - 1).toNat (hi8 w)) (s.sp - 1 - 1).toNat (lo8 w) := by simp [State.push16]
@[simp] theorem State.push16_busAnswers (w : Word) : (s.push16 w).busAnswers = s.busAnswers := by simp [State.push16]
@[simp] theorem State.push16_stopWake (w : Word) : (s.push16 w).stopWake = s.stopWake := by simp [State.push16]
@[simp] theorem State.push16_config (w : Word) : (s.push16 w).config = s.config := by simp [State.push16]

/-! ### `pop16` -/

@[simp] theorem State.pop16_a : (s.pop16.2).a = s.a := by simp [State.pop16]
@[simp] theorem State.pop16_f : (s.pop16.2).f = s.f := by simp [State.pop16]
@[simp] theorem State.pop16_b : (s.pop16.2).b = s.b := by simp [State.pop16]
@[simp] theorem State.pop16_c : (s.pop16.2).c = s.c := by simp [State.pop16]
@[simp] theorem State.pop16_d : (s.pop16.2).d = s.d := by simp [State.pop16]
@[simp] theorem State.pop16_e : (s.pop16.2).e = s.e := by simp [State.pop16]
@[simp] theorem State.pop16_h : (s.pop16.2).h = s.h := by simp [State.pop16]
@[simp] theorem State.pop16_l : (s.pop16.2).l = s.l := by simp [State.pop16]
@[simp] theorem State.pop16_sp : (s.pop16.2).sp = s.sp + 1 + 1 := by simp [State.pop16]
@[simp] theorem State.pop16_pc : (s.pop16.2).pc = s.pc := by simp [State.pop16]
@[simp] theorem State.pop16_ime : (s.pop16.2).ime = s.ime := by simp [State.pop16]
@[simp] theorem State.pop16_imeSched : (s.pop16.2).imeSched = s.imeSched := by simp [State.pop16]
@[simp] theorem State.pop16_haltBug : (s.pop16.2).haltBug = s.haltBug := by simp [State.pop16]
@[simp] theorem State.pop16_runState : (s.pop16.2).runState = s.runState := by simp [State.pop16]
@[simp] theorem State.pop16_cycleCount : (s.pop16.2).cycleCount = s.cycleCount := by simp [State.pop16]
@[simp] theorem State.pop16_fault : (s.pop16.2).fault = s.fault := by simp [State.pop16]
@[simp] theorem State.pop16_stepCycles : (s.pop16.2).stepCycles = s.stepCycles := by simp [State.pop16]
@[simp] theorem State.pop16_busAccesses : (s.pop16.2).busAccesses = s.busAccesses ++ [.read s.sp (s.busValue s.sp)] ++ [.read (s.sp + 1) ((s.busRead s.sp).busValue (s.sp + 1))] := by simp [State.pop16]; rfl
@[simp] theorem State.pop16_mem : (s.pop16.2).mem = s.mem := by simp [State.pop16]
@[simp] theorem State.pop16_busAnswers : (s.pop16.2).busAnswers = s.busAnswers.drop 2 := by
  simp only [State.pop16, State.setSp_busAnswers, State.busRead_busAnswers]
  rcases s.busAnswers with _ | ⟨_, _ | ⟨_, _⟩⟩ <;> rfl
@[simp] theorem State.pop16_stopWake : (s.pop16.2).stopWake = s.stopWake := by simp [State.pop16]
@[simp] theorem State.pop16_config : (s.pop16.2).config = s.config := by simp [State.pop16]

/-! ### `setCycles` -/

@[simp] theorem State.setCycles_a (n : Nat) : (s.setCycles n).a = s.a := rfl
@[simp] theorem State.setCycles_f (n : Nat) : (s.setCycles n).f = s.f := rfl
@[simp] theorem State.setCycles_b (n : Nat) : (s.setCycles n).b = s.b := rfl
@[simp] theorem State.setCycles_c (n : Nat) : (s.setCycles n).c = s.c := rfl
@[simp] theorem State.setCycles_d (n : Nat) : (s.setCycles n).d = s.d := rfl
@[simp] theorem State.setCycles_e (n : Nat) : (s.setCycles n).e = s.e := rfl
@[simp] theorem State.setCycles_h (n : Nat) : (s.setCycles n).h = s.h := rfl
@[simp] theorem State.setCycles_l (n : Nat) : (s.setCycles n).l = s.l := rfl
@[simp] theorem State.setCycles_sp (n : Nat) : (s.setCycles n).sp = s.sp := rfl
@[simp] theorem State.setCycles_pc (n : Nat) : (s.setCycles n).pc = s.pc := rfl
@[simp] theorem State.setCycles_ime (n : Nat) : (s.setCycles n).ime = s.ime := rfl
@[simp] theorem State.setCycles_imeSched (n : Nat) : (s.setCycles n).imeSched = s.imeSched := rfl
@[simp] theorem State.setCycles_haltBug (n : Nat) : (s.setCycles n).haltBug = s.haltBug := rfl
@[simp] theorem State.setCycles_runState (n : Nat) : (s.setCycles n).runState = s.runState := rfl
@[simp] theorem State.setCycles_cycleCount (n : Nat) : (s.setCycles n).cycleCount = s.cycleCount := rfl
@[simp] theorem State.setCycles_fault (n : Nat) : (s.setCycles n).fault = s.fault := rfl
@[simp] theorem State.setCycles_stepCycles (n : Nat) : (s.setCycles n).stepCycles = n := rfl
@[simp] theorem State.setCycles_busAccesses (n : Nat) : (s.setCycles n).busAccesses = s.busAccesses := rfl
@[simp] theorem State.setCycles_mem (n : Nat) : (s.setCycles n).mem = s.mem := rfl
@[simp] theorem State.setCycles_busAnswers (n : Nat) : (s.setCycles n).busAnswers = s.busAnswers := rfl
@[simp] theorem State.setCycles_stopWake (n : Nat) : (s.setCycles n).stopWake = s.stopWake := rfl
@[simp] theorem State.setCycles_config (n : Nat) : (s.setCycles n).config = s.config := rfl

/-! ### `setRunState` -/

@[simp] theorem State.setRunState_a (r : RunState) : (s.setRunState r).a = s.a := rfl
@[simp] theorem State.setRunState_f (r : RunState) : (s.setRunState r).f = s.f := rfl
@[simp] theorem State.setRunState_b (r : RunState) : (s.setRunState r).b = s.b := rfl
@[simp] theorem State.setRunState_c (r : RunState) : (s.setRunState r).c = s.c := rfl
@[simp] theorem State.setRunState_d (r : RunState) : (s.setRunState r).d = s.d := rfl
@[simp] theorem State.setRunState_e (r : RunState) : (s.setRunState r).e = s.e := rfl
@[simp] theorem State.setRunState_h (r : RunState) : (s.setRunState r).h = s.h := rfl
@[simp] theorem State.setRunState_l (r : RunState) : (s.setRunState r).l = s.l := rfl
@[simp] theorem State.setRunState_sp (r : RunState) : (s.setRunState r).sp = s.sp := rfl
@[simp] theorem State.setRunState_pc (r : RunState) : (s.setRunState r).pc = s.pc := rfl
@[simp] theorem State.setRunState_ime (r : RunState) : (s.setRunState r).ime = s.ime := rfl
@[simp] theorem State.setRunState_imeSched (r : RunState) : (s.setRunState r).imeSched = s.imeSched := rfl
@[simp] theorem State.setRunState_haltBug (r : RunState) : (s.setRunState r).haltBug = s.haltBug := rfl
@[simp] theorem State.setRunState_runState (r : RunState) : (s.setRunState r).runState = r := rfl
@[simp] theorem State.setRunState_cycleCount (r : RunState) : (s.setRunState r).cycleCount = s.cycleCount := rfl
@[simp] theorem State.setRunState_fault (r : RunState) : (s.setRunState r).fault = s.fault := rfl
@[simp] theorem State.setRunState_stepCycles (r : RunState) : (s.setRunState r).stepCycles = s.stepCycles := rfl
@[simp] theorem State.setRunState_busAccesses (r : RunState) : (s.setRunState r).busAccesses = s.busAccesses := rfl
@[simp] theorem State.setRunState_mem (r : RunState) : (s.setRunState r).mem = s.mem := rfl
@[simp] theorem State.setRunState_busAnswers (r : RunState) : (s.setRunState r).busAnswers = s.busAnswers := rfl
@[simp] theorem State.setRunState_stopWake (r : RunState) : (s.setRunState r).stopWake = s.stopWake := rfl
@[simp] theorem State.setRunState_config (r : RunState) : (s.setRunState r).config = s.config := rfl

/-! ### `setHaltBug` -/

@[simp] theorem State.setHaltBug_a (x : Bool) : (s.setHaltBug x).a = s.a := rfl
@[simp] theorem State.setHaltBug_f (x : Bool) : (s.setHaltBug x).f = s.f := rfl
@[simp] theorem State.setHaltBug_b (x : Bool) : (s.setHaltBug x).b = s.b := rfl
@[simp] theorem State.setHaltBug_c (x : Bool) : (s.setHaltBug x).c = s.c := rfl
@[simp] theorem State.setHaltBug_d (x : Bool) : (s.setHaltBug x).d = s.d := rfl
@[simp] theorem State.setHaltBug_e (x : Bool) : (s.setHaltBug x).e = s.e := rfl
@[simp] theorem State.setHaltBug_h (x : Bool) : (s.setHaltBug x).h = s.h := rfl
@[simp] theorem State.setHaltBug_l (x : Bool) : (s.setHaltBug x).l = s.l := rfl
@[simp] theorem State.setHaltBug_sp (x : Bool) : (s.setHaltBug x).sp = s.sp := rfl
@[simp] theorem State.setHaltBug_pc (x : Bool) : (s.setHaltBug x).pc = s.pc := rfl
@[simp] theorem State.setHaltBug_ime (x : Bool) : (s.setHaltBug x).ime = s.ime := rfl
@[simp] theorem State.setHaltBug_imeSched (x : Bool) : (s.setHaltBug x).imeSched = s.imeSched := rfl
@[simp] theorem State.setHaltBug_haltBug (x : Bool) : (s.setHaltBug x).haltBug = x := rfl
@[simp] theorem State.setHaltBug_runState (x : Bool) : (s.setHaltBug x).runState = s.runState := rfl
@[simp] theorem State.setHaltBug_cycleCount (x : Bool) : (s.setHaltBug x).cycleCount = s.cycleCount := rfl
@[simp] theorem State.setHaltBug_fault (x : Bool) : (s.setHaltBug x).fault = s.fault := rfl
@[simp] theorem State.setHaltBug_stepCycles (x : Bool) : (s.setHaltBug x).stepCycles = s.stepCycles := rfl
@[simp] theorem State.setHaltBug_busAccesses (x : Bool) : (s.setHaltBug x).busAccesses = s.busAccesses := rfl
@[simp] theorem State.setHaltBug_mem (x : Bool) : (s.setHaltBug x).mem = s.mem := rfl
@[simp] theorem State.setHaltBug_busAnswers (x : Bool) : (s.setHaltBug x).busAnswers = s.busAnswers := rfl
@[simp] theorem State.setHaltBug_stopWake (x : Bool) : (s.setHaltBug x).stopWake = s.stopWake := rfl
@[simp] theorem State.setHaltBug_config (x : Bool) : (s.setHaltBug x).config = s.config := rfl

/-! ### `disableInterrupts` -/

@[simp] theorem State.disableInterrupts_a : (s.disableInterrupts).a = s.a := rfl
@[simp] theorem State.disableInterrupts_f : (s.disableInterrupts).f = s.f := rfl
@[simp] theorem State.disableInterrupts_b : (s.disableInterrupts).b = s.b := rfl
@[simp] theorem State.disableInterrupts_c : (s.disableInterrupts).c = s.c := rfl
@[simp] theorem State.disableInterrupts_d : (s.disableInterrupts).d = s.d := rfl
@[simp] theorem State.disableInterrupts_e : (s.disableInterrupts).e = s.e := rfl
@[simp] theorem State.disableInterrupts_h : (s.disableInterrupts).h = s.h := rfl
@[simp] theorem State.disableInterrupts_l : (s.disableInterrupts).l = s.l := rfl
@[simp] theorem State.disableInterrupts_sp : (s.disableInterrupts).sp = s.sp := rfl
@[simp] theorem State.disableInterrupts_pc : (s.disableInterrupts).pc = s.pc := rfl
@[simp] theorem State.disableInterrupts_ime : (s.disableInterrupts).ime = false := rfl
@[simp] theorem State.disableInterrupts_imeSched : (s.disableInterrupts).imeSched = false := rfl
@[simp] theorem State.disableInterrupts_haltBug : (s.disableInterrupts).haltBug = s.haltBug := rfl
@[simp] theorem State.disableInterrupts_runState : (s.disableInterrupts).runState = s.runState := rfl
@[simp] theorem State.disableInterrupts_cycleCount : (s.disableInterrupts).cycleCount = s.cycleCount := rfl
@[simp] theorem State.disableInterrupts_fault : (s.disableInterrupts).fault = s.fault := rfl
@[simp] theorem State.disableInterrupts_stepCycles : (s.disableInterrupts).stepCycles = s.stepCycles := rfl
@[simp] theorem State.disableInterrupts_busAccesses : (s.disableInterrupts).busAccesses = s.busAccesses := rfl
@[simp] theorem State.disableInterrupts_mem : (s.disableInterrupts).mem = s.mem := rfl
@[simp] theorem State.disableInterrupts_busAnswers : (s.disableInterrupts).busAnswers = s.busAnswers := rfl
@[simp] theorem State.disableInterrupts_stopWake : (s.disableInterrupts).stopWake = s.stopWake := rfl
@[simp] theorem State.disableInterrupts_config : (s.disableInterrupts).config = s.config := rfl

/-! ### `raiseIllegal` -/

@[simp] theorem State.raiseIllegal_a : (s.raiseIllegal).a = s.a := rfl
@[simp] theorem State.raiseIllegal_f : (s.raiseIllegal).f = s.f := rfl
@[simp] theorem State.raiseIllegal_b : (s.raiseIllegal).b = s.b := rfl
@[simp] theorem State.raiseIllegal_c : (s.raiseIllegal).c = s.c := rfl
@[simp] theorem State.raiseIllegal_d : (s.raiseIllegal).d = s.d := rfl
@[simp] theorem State.raiseIllegal_e : (s.raiseIllegal).e = s.e := rfl
@[simp] theorem State.raiseIllegal_h : (s.raiseIllegal).h = s.h := rfl
@[simp] theorem State.raiseIllegal_l : (s.raiseIllegal).l = s.l := rfl
@[simp] theorem State.raiseIllegal_sp : (s.raiseIllegal).sp = s.sp := rfl
@[simp] theorem State.raiseIllegal_pc : (s.raiseIllegal).pc = s.pc := rfl
@[simp] theorem State.raiseIllegal_ime : (s.raiseIllegal).ime = s.ime := rfl
@[simp] theorem State.raiseIllegal_imeSched : (s.raiseIllegal).imeSched = s.imeSched := rfl
@[simp] theorem State.raiseIllegal_haltBug : (s.raiseIllegal).haltBug = s.haltBug := rfl
@[simp] theorem State.raiseIllegal_runState : (s.raiseIllegal).runState = s.runState := rfl
@[simp] theorem State.raiseIllegal_cycleCount : (s.raiseIllegal).cycleCount = s.cycleCount := rfl
@[simp] theorem State.raiseIllegal_fault : (s.raiseIllegal).fault = some s.pc := rfl
@[simp] theorem State.raiseIllegal_stepCycles : (s.raiseIllegal).stepCycles = s.stepCycles := rfl
@[simp] theorem State.raiseIllegal_busAccesses : (s.raiseIllegal).busAccesses = s.busAccesses := rfl
@[simp] theorem State.raiseIllegal_mem : (s.raiseIllegal).mem = s.mem := rfl
@[simp] theorem State.raiseIllegal_busAnswers : (s.raiseIllegal).busAnswers = s.busAnswers := rfl
@[simp] theorem State.raiseIllegal_stopWake : (s.raiseIllegal).stopWake = s.stopWake := rfl
@[simp] theorem State.raiseIllegal_config : (s.raiseIllegal).config = s.config := rfl

/-! ### `setReg`, `setPair`, `setStackPair` -/

@[simp] theorem State.setReg_f (r : Reg8) (v : Byte) : (s.setReg r v).f = s.f := by cases r <;> rfl
@[simp] theorem State.setReg_sp (r : Reg8) (v : Byte) : (s.setReg r v).sp = s.sp := by cases r <;> rfl
@[simp] theorem State.setReg_pc (r : Reg8) (v : Byte) : (s.setReg r v).pc = s.pc := by cases r <;> rfl
@[simp] theorem State.setReg_ime (r : Reg8) (v : Byte) : (s.setReg r v).ime = s.ime := by cases r <;> rfl
@[simp] theorem State.setReg_imeSched (r : Reg8) (v : Byte) : (s.setReg r v).imeSched = s.imeSched := by cases r <;> rfl
@[simp] theorem State.setReg_haltBug (r : Reg8) (v : Byte) : (s.setReg r v).haltBug = s.haltBug := by cases r <;> rfl
@[simp] theorem State.setReg_runState (r : Reg8) (v : Byte) : (s.setReg r v).runState = s.runState := by cases r <;> rfl
@[simp] theorem State.setReg_cycleCount (r : Reg8) (v : Byte) : (s.setReg r v).cycleCount = s.cycleCount := by cases r <;> rfl
@[simp] theorem State.setReg_fault (r : Reg8) (v : Byte) : (s.setReg r v).fault = s.fault := by cases r <;> rfl
@[simp] theorem State.setReg_stepCycles (r : Reg8) (v : Byte) : (s.setReg r v).stepCycles = s.stepCycles := by cases r <;> rfl
@[simp] theorem State.setReg_busAccesses (r : Reg8) (v : Byte) : (s.setReg r v).busAccesses = s.busAccesses := by cases r <;> rfl
@[simp] theorem State.setReg_mem (r : Reg8) (v : Byte) : (s.setReg r v).mem = s.mem := by cases r <;> rfl
@[simp] theorem State.setReg_busAnswers (r : Reg8) (v : Byte) : (s.setReg r v).busAnswers = s.busAnswers := by cases r <;> rfl
@[simp] theorem State.setReg_stopWake (r : Reg8) (v : Byte) : (s.setReg r v).stopWake = s.stopWake := by cases r <;> rfl
@[simp] theorem State.setReg_config (r : Reg8) (v : Byte) : (s.setReg r v).config = s.config := by cases r <;> rfl

@[simp] theorem State.setPair_a (p : Pair16) (w : Word) : (s.setPair p w).a = s.a := by cases p <;> rfl
@[simp] theorem State.setPair_f (p : Pair16) (w : Word) : (s.setPair p w).f = s.f := by cases p <;> rfl
@[simp] theorem State.setPair_pc (p : Pair16) (w : Word) : (s.setPair p w).pc = s.pc := by cases p <;> rfl
@[simp] theorem State.setPair_ime (p : Pair16) (w : Word) : (s.setPair p w).ime = s.ime := by cases p <;> rfl
@[simp] theorem State.setPair_imeSched (p : Pair16) (w : Word) : (s.setPair p w).imeSched = s.imeSched := by cases p <;> rfl
@[simp] theorem State.setPair_haltBug (p : Pair16) (w : Word) : (s.setPair p w).haltBug = s.haltBug := by cases p <;> rfl
@[simp] theorem State.setPair_runState (p : Pair16) (w : Word) : (s.setPair p w).runState = s.runState := by cases p <;> rfl
@[simp] theorem State.setPair_cycleCount (p : Pair16) (w : Word) : (s.setPair p w).cycleCount = s.cycleCount := by cases p <;> rfl
@[simp] theorem State.setPair_fault (p : Pair16) (w : Word) : (s.setPair p w).fault = s.fault := by cases p <;> rfl
@[simp] theorem State.setPair_stepCycles (p : Pair16) (w : Word) : (s.setPair p w).stepCycles = s.stepCycles := by cases p <;> rfl
@[simp] theorem State.setPair_busAccesses (p : Pair16) (w : Word) : (s.setPair p w).busAccesses = s.busAccesses := by cases p <;> rfl
@[simp] theorem State.setPair_mem (p : Pair16) (w : Word) : (s.setPair p w).mem = s.mem := by cases p <;> rfl
@[simp] theorem State.setPair_busAnswers (p : Pair16) (w : Word) : (s.setPair p w).busAnswers = s.busAnswers := by cases p <;> rfl
@[simp] theorem State.setPair_stopWake (p : Pair16) (w : Word) : (s.setPair p w).stopWake = s.stopWake := by cases p <;> rfl
@[simp] theorem State.setPair_config (p : Pair16) (w : Word) : (s.setPair p w).config = s.config := by cases p <;> rfl
@[simp] theorem State.setPair_sp (p : Pair16) (w : Word) : (s.setPair p w).sp = if p = .sp then w else s.sp := by cases p <;> rfl

@[simp] theorem State.setStackPair_sp (p : StackPair) (w : Word) : (s.setStackPair p w).sp = s.sp := by cases p <;> rfl
@[simp] theorem State.setStackPair_pc (p : StackPair) (w : Word) : (s.setStackPair p w).pc = s.pc := by cases p <;> rfl
@[simp] theorem State.setStackPair_ime (p : StackPair) (w : Word) : (s.setStackPair p w).ime = s.ime := by cases p <;> rfl
@[simp] theorem State.setStackPair_imeSched (p : StackPair) (w : Word) : (s.setStackPair p w).imeSched = s.imeSched := by cases p <;> rfl
@[simp] theorem State.setStackPair_haltBug (p : StackPair) (w : Word) : (s.setStackPair p w).haltBug = s.haltBug := by cases p <;> rfl
@[simp] theorem State.setStackPair_runState (p : StackPair) (w : Word) : (s.setStackPair p w).runState = s.runState := by cases p <;> rfl
@[simp] theorem State.setStackPair_cycleCount (p : StackPair) (w : Word) : (s.setStackPair p w).cycleCount = s.cycleCount := by cases p <;> rfl
@[simp] theorem State.setStackPair_fault (p : StackPair) (w : Word) : (s.setStackPair p w).fault = s.fault := by cases p <;> rfl
@[simp] theorem State.setStackPair_stepCycles (p : StackPair) (w : Word) : (s.setStackPair p w).stepCycles = s.stepCycles := by cases p <;> rfl
@[simp] theorem State.setStackPair_busAccesses (p : StackPair) (w : Word) : (s.setStackPair p w).busAccesses = s.busAccesses := by cases p <;> rfl
@[simp] theorem State.setStackPair_mem (p : StackPair) (w : Word) : (s.setStackPair p w).mem = s.mem := by cases p <;> rfl
@[simp] theorem State.setStackPair_busAnswers (p : StackPair) (w : Word) : (s.setStackPair p w).busAnswers = s.busAnswers := by cases p <;> rfl
@[simp] theorem State.setStackPair_stopWake (p : StackPair) (w : Word) : (s.setStackPair p w).stopWake = s.stopWake := by cases p <;> rfl
@[simp] theorem State.setStackPair_config (p : StackPair) (w : Word) : (s.setStackPair p w).config = s.config := by cases p <;> rfl
@[simp] theorem State.setStackPair_f (p : StackPair) (w : Word) : (s.setStackPair p w).f = if p = .af then lo8 w &&& 0xF0 else s.f := by cases p <;> rfl

/-- Reading a register after a register was written. -/
theorem State.getReg_setReg (r x : Reg8) (v : Byte) : (s.setReg r v).getReg x = if x = r then v else s.getReg x := by
  cases r <;> cases x <;> rfl

@[simp] theorem State.getReg_setReg_same (r : Reg8) (v : Byte) : (s.setReg r v).getReg r = v := by cases r <;> rfl

theorem State.getReg_setReg_other {r x : Reg8} (v : Byte) (h : x ≠ r) : (s.setReg r v).getReg x = s.getReg x := by
  simp [State.getReg_setReg, h]

theorem State.getReg_setPair_other {p : Pair16} {x : Reg8} (w : Word) (h : x ∉ p.regs) :
    (s.setPair p w).getReg x = s.getReg x := by
  cases p <;> cases x <;> first | rfl | simp [Pair16.regs] at h

theorem State.getReg_setStackPair_other {p : StackPair} {x : Reg8} (w : Word) (h : x ∉ p.regs) :
    (s.setStackPair p w).getReg x = s.getReg x := by
  cases p <;> cases x <;> first | rfl | simp [StackPair.regs] at h

theorem State.getReg_setHl_other {x : Reg8} (w : Word) (h : x ∉ [Reg8.h, Reg8.l]) : (s.setHl w).getReg x = s.getReg x := by
  cases x <;> first | rfl | simp at h

@[simp] theorem State.getReg_busRead (addr : Word) (y : Reg8) : (s.busRead addr).getReg y = s.getReg y := by cases y <;> rfl
@[simp] theorem State.getReg_busWrite (addr : Word) (v : Byte) (y : Reg8) : (s.busWrite addr v).getReg y = s.getReg y := by cases y <;> rfl
@[simp] theorem State.getReg_setPc (w : Word) (y : Reg8) : (s.setPc w).getReg y = s.getReg y := by cases y <;> rfl
@[simp] theorem State.getReg_setSp (w : Word) (y : Reg8) : (s.setSp w).getReg y = s.getReg y := by cases y <;> rfl
@[simp] theorem State.getReg_setFlags (z n h c : Bool) (y : Reg8) : (s.setFlags z n h c).getReg y = s.getReg y := by cases y <;> rfl
@[simp] theorem State.getReg_push16 (w : Word) (y : Reg8) : (s.push16 w).getReg y = s.getReg y := by cases y <;> simp [State.getReg]
@[simp] theorem State.getReg_pop16 (y : Reg8) : (s.pop16.2).getReg y = s.getReg y := by cases y <;> simp [State.getReg]
@[simp] theorem State.getReg_setCycles (n : Nat) (y : Reg8) : (s.setCycles n).getReg y = s.getReg y := by cases y <;> rfl
@[simp] theorem State.getReg_setRunState (r : RunState) (y : Reg8) : (s.setRunState r).getReg y = s.getReg y := by cases y <;> rfl
@[simp] theorem State.getReg_setHaltBug (x : Bool) (y : Reg8) : (s.setHaltBug x).getReg y = s.getReg y := by cases y <;> rfl
@[simp] theorem State.getReg_disableInterrupts (y : Reg8) : (s.disableInterrupts).getReg y = s.getReg y := by cases y <;> rfl
@[simp] theorem State.getReg_raiseIllegal (y : Reg8) : (s.raiseIllegal).getReg y = s.getReg y := by cases y <;> rfl

/-! ### `aluApply`, `bitFlags`, `busWrite16` -/

@[simp] theorem aluApply_b (op : AluOp) (v : Byte) : (aluApply op v s).b = s.b := by cases op <;> rfl
@[simp] theorem aluApply_c (op : AluOp) (v : Byte) : (aluApply op v s).c = s.c := by cases op <;> rfl
@[simp] theorem aluApply_d (op : AluOp) (v : Byte) : (aluApply op v s).d = s.d := by cases op <;> rfl
@[simp] theorem aluApply_e (op : AluOp) (v : Byte) : (aluApply op v s).e = s.e := by cases op <;> rfl
@[simp] theorem aluApply_h (op : AluOp) (v : Byte) : (aluApply op v s).h = s.h := by cases op <;> rfl
@[simp] theorem aluApply_l (op : AluOp) (v : Byte) : (aluApply op v s).l = s.l := by cases op <;> rfl
@[simp] theorem aluApply_sp (op : AluOp) (v : Byte) : (aluApply op v s).sp = s.sp := by cases op <;> rfl
@[simp] theorem aluApply_pc (op : AluOp) (v : Byte) : (aluApply op v s).pc = s.pc := by cases op <;> rfl
@[simp] theorem aluApply_ime (op : AluOp) (v : Byte) : (aluApply op v s).ime = s.ime := by cases op <;> rfl
@[simp] theorem aluApply_imeSched (op : AluOp) (v : Byte) : (aluApply op v s).imeSched = s.imeSched := by cases op <;> rfl
@[simp] theorem aluApply_haltBug (op : AluOp) (v : Byte) : (aluApply op v s).haltBug = s.haltBug := by cases op <;> rfl
@[simp] theorem aluApply_runState (op : AluOp) (v : Byte) : (aluApply op v s).runState = s.runState := by cases op <;> rfl
@[simp] theorem aluApply_cycleCount (op : AluOp) (v : Byte) : (aluApply op v s).cycleCount = s.cycleCount := by cases op <;> rfl
@[simp] theorem aluApply_fault (op : AluOp) (v : Byte) : (aluApply op v s).fault = s.fault := by cases op <;> rfl
@[simp] theorem aluApply_stepCycles (op : AluOp) (v : Byte) : (aluApply op v s).stepCycles = s.stepCycles := by cases op <;> rfl
@[simp] theorem aluApply_busAccesses (op : AluOp) (v : Byte) : (aluApply op v s).busAccesses = s.busAccesses := by cases op <;> rfl
@[simp] theorem aluApply_mem (op : AluOp) (v : Byte) : (aluApply op v s).mem = s.mem := by cases op <;> rfl
@[simp] theorem aluApply_busAnswers (op : AluOp) (v : Byte) : (aluApply op v s).busAnswers = s.busAnswers := by cases op <;> rfl
@[simp] theorem aluApply_stopWake (op : AluOp) (v : Byte) : (aluApply op v s).stopWake = s.stopWake := by cases op <;> rfl
@[simp] theorem aluApply_config (op : AluOp) (v : Byte) : (aluApply op v s).config = s.config := by cases op <;> rfl
@[simp] theorem getReg_aluApply (op : AluOp) (v : Byte) {x : Reg8} (h : x ≠ .a) : (aluApply op v s).getReg x = s.getReg x := by
  cases x <;> first | contradiction | simp [State.getReg]

@[simp] theorem bitFlags_a (b : Nat) (v : Byte) : (bitFlags b v s).a = s.a := rfl
@[simp] theorem bitFlags_b (b : Nat) (v : Byte) : (bitFlags b v s).b = s.b := rfl
@[simp] theorem bitFlags_c (b : Nat) (v : Byte) : (bitFlags b v s).c = s.c := rfl
@[simp] theorem bitFlags_d (b : Nat) (v : Byte) : (bitFlags b v s).d = s.d := rfl
@[simp] theorem bitFlags_e (b : Nat) (v : Byte) : (bitFlags b v s).e = s.e := rfl
@[simp] theorem bitFlags_h (b : Nat) (v : Byte) : (bitFlags b v s).h = s.h := rfl
@[simp] theorem bitFlags_l (b : Nat) (v : Byte) : (bitFlags b v s).l = s.l := rfl
@[simp] theorem bitFlags_sp (b : Nat) (v : Byte) : (bitFlags b v s).sp = s.sp := rfl
@[simp] theorem bitFlags_pc (b : Nat) (v : Byte) : (bitFlags b v s).pc = s.pc := rfl
@[simp] theorem bitFlags_ime (b : Nat) (v : Byte) : (bitFlags b v s).ime = s.ime := rfl
@[simp] theorem bitFlags_imeSched (b : Nat) (v : Byte) : (bitFlags b v s).imeSched = s.imeSched := rfl
@[simp] theorem bitFlags_haltBug (b : Nat) (v : Byte) : (bitFlags b v s).haltBug = s.haltBug := rfl
@[simp] theorem bitFlags_runState (b : Nat) (v : Byte) : (bitFlags b v s).runState = s.runState := rfl
@[simp] theorem bitFlags_cycleCount (b : Nat) (v : Byte) : (bitFlags b v s).cycleCount = s.cycleCount := rfl
@[simp] theorem bitFlags_fault (b : Nat) (v : Byte) : (bitFlags b v s).fault = s.fault := rfl
@[simp] theorem bitFlags_stepCycles (b : Nat) (v : Byte) : (bitFlags b v s).stepCycles = s.stepCycles := rfl
@[simp] theorem bitFlags_busAccesses (b : Nat) (v : Byte) : (bitFlags b v s).busAccesses = s.busAccesses := rfl
@[simp] theorem bitFlags_mem (b : Nat) (v : Byte) : (bitFlags b v s).mem = s.mem := rfl
@[simp] theorem bitFlags_busAnswers (b : Nat) (v : Byte) : (bitFlags b v s).busAnswers = s.busAnswers := rfl
@[simp] theorem bitFlags_stopWake (b : Nat) (v : Byte) : (bitFlags b v s).stopWake = s.stopWake := rfl
@[simp] theorem bitFlags_config (b : Nat) (v : Byte) : (bitFlags b v s).config = s.config := rfl
@[simp] theorem getReg_bitFlags (b : Nat) (v : Byte) (x : Reg8) : (bitFlags b v s).getReg x = s.getReg x := by cases x <;> rfl

@[simp] theorem State.busWrite16_a (addr w : Word) : (s.busWrite16 addr w).a = s.a := by simp [State.busWrite16]
@[simp] theorem State.busWrite16_f (addr w : Word) : (s.busWrite16 addr w).f = s.f := by simp [State.busWrite16]
@[simp] theorem State.busWrite16_b (addr w : Word) : (s.busWrite16 addr w).b = s.b := by simp [State.busWrite16]
@[simp] theorem State.busWrite16_c (addr w : Word) : (s.busWrite16 addr w).c = s.c := by simp [State.busWrite16]
@[simp] theorem State.busWrite16_d (addr w : Word) : (s.busWrite16 addr w).d = s.d := by simp [State.busWrite16]
@[simp] theorem State.busWrite16_e (addr w : Word) : (s.busWrite16 addr w).e = s.e := by simp [State.busWrite16]
@[simp] theorem State.busWrite16_h (addr w : Word) : (s.busWrite16 addr w).h = s.h := by simp [State.busWrite16]
@[simp] theorem State.busWrite16_l (addr w : Word) : (s.busWrite16 addr w).l = s.l := by simp [State.busWrite16]
@[simp] theorem State.busWrite16_sp (addr w : Word) : (s.busWrite16 addr w).sp = s.sp := by simp [State.busWrite16]
@[simp] theorem State.busWrite16_pc (addr w : Word) : (s.busWrite16 addr w).pc = s.pc := by simp [State.busWrite16]
@[simp] theorem State.busWrite16_ime (addr w : Word) : (s.busWrite16 addr w).ime = s.ime := by simp [State.busWrite16]
@[simp] theorem State.busWrite16_imeSched (addr w : Word) : (s.busWrite16 addr w).imeSched = s.imeSched := by simp [State.busWrite16]
@[simp] theorem State.busWrite16_haltBug (addr w : Word) : (s.busWrite16 addr w).haltBug = s.haltBug := by simp [State.busWrite16]
@[simp] theorem State.busWrite16_runState (addr w : Word) : (s.busWrite16 addr w).runState = s.runState := by simp [State.busWrite16]
@[simp] theorem State.busWrite16_cycleCount (addr w : Word) : (s.busWrite16 addr w).cycleCount = s.cycleCount := by simp [State.busWrite16]
@[simp] theorem State.busWrite16_fault (addr w : Word) : (s.busWrite16 addr w).fault = s.fault := by simp [State.busWrite16]
@[simp] theorem State.busWrite16_stepCycles (addr w : Word) : (s.busWrite16 addr w).stepCycles = s.stepCycles := by simp [State.busWrite16]
@[simp] theorem State.busWrite16_busAccesses (addr w : Word) : (s.busWrite16 addr w).busAccesses = s.busAccesses ++ [.write addr (lo8 w)] ++ [.write (addr + 1) (hi8 w)] := by simp [State.busWrite16]
@[simp] theorem State.busWrite16_mem (addr w : Word) : (s.busWrite16 addr w).mem = Memory.write (Memory.write s.mem addr.toNat (lo8 w)) (addr + 1).toNat (hi8 w) := by simp [State.busWrite16]
@[simp] theorem State.busWrite16_busAnswers (addr w : Word) : (s.busWrite16 addr w).busAnswers = s.busAnswers := by simp [State.busWrite16]
@[simp] theorem State.busWrite16_stopWake (addr w : Word) : (s.busWrite16 addr w).stopWake = s.stopWake := by simp [State.busWrite16]
@[simp] theorem State.busWrite16_config (addr w : Word) : (s.busWrite16 addr w).config = s.config := by simp [State.busWrite16]
@[simp] theorem State.getReg_busWrite16 (addr w : Word) (x : Reg8) : (s.busWrite16 addr w).getReg x = s.getReg x := by cases x <;> rfl

/-! ### Bytes of a word -/

theorem hi8_toNat (w : Word) : (hi8 w).toNat = w.toNat / 256 := by
  have := w.isLt
  simp only [hi8, BitVec.extractLsb'_toNat, Nat.shiftRight_eq_div_pow]
  omega

theorem lo8_toNat (w : Word) : (lo8 w).toNat = w.toNat % 256 := by
  simp [lo8, BitVec.extractLsb'_toNat]

theorem ofBytes_toNat (hi lo : Byte) : (ofBytes hi lo).toNat = hi.toNat * 256 + lo.toNat := by
  have := lo.isLt
  simp only [ofBytes, BitVec.toNat_append, Nat.shiftLeft_eq]
  rw [Nat.mul_comm, ← Nat.two_pow_add_eq_or_of_lt this]

@[simp] theorem ofBytes_hi8_lo8 (w : Word) : ofBytes (hi8 w) (lo8 w) = w := by
  apply BitVec.eq_of_toNat_eq
  rw [ofBytes_toNat, hi8_toNat, lo8_toNat]
  omega

@[simp] theorem hi8_ofBytes (hi lo : Byte) : hi8 (ofBytes hi lo) = hi := by
  have := lo.isLt
  apply BitVec.eq_of_toNat_eq
  rw [hi8_toNat, ofBytes_toNat]
  omega

@[simp] theorem lo8_ofBytes (hi lo : Byte) : lo8 (ofBytes hi lo) = lo := by
  have := lo.isLt
  apply BitVec.eq_of_toNat_eq
  rw [lo8_toNat, ofBytes_toNat]
  omega

@[simp] theorem State.hl_setHl (w : Word) : (s.setHl w).hl = w := by simp [State.hl]

@[simp] theorem State.getPair_setPair (p : Pair16) (w : Word) : (s.setPair p w).getPair p = w := by
  cases p <;> simp [State.setPair, State.getPair, State.bc, State.de, State.hl]

/-! ### The end of a meaning -/

@[simp] theorem retire_eq (n : Nat) : retire n s = .next (s.setCycles n) := rfl

end Sys2Proof.Machine
end

