-- ==== Sys2Proof/Laws/Decode.lean ====
section
/-! SUPPORT. What the decoder does with each kind of first byte, and the tie between the two opcode tables and the lengths. -/

namespace Sys2Proof

theorem decode_cb (op2 : Byte) (rest : List Byte) : decode (cbByte :: op2 :: rest) = .ok (cbSlot op2) rest := by
  simp [decode]

theorem decode_none {op : Byte} (rest : List Byte) (hc : op ≠ cbByte) (hi : immediateOf op = .none) :
    decode (op :: rest) = .ok (unprefixedSlot op 0 0) rest := by
  simp only [decode, if_neg hc, hi]

theorem decode_byte {op : Byte} (n : Byte) (rest : List Byte) (hc : op ≠ cbByte) (hi : immediateOf op = .byte) :
    decode (op :: n :: rest) = .ok (unprefixedSlot op n 0) rest := by
  simp only [decode, if_neg hc, hi]

theorem decode_word {op : Byte} (lo hi : Byte) (rest : List Byte) (hc : op ≠ cbByte) (hw : immediateOf op = .word) :
    decode (op :: lo :: hi :: rest) = .ok (unprefixedSlot op 0 (ofBytes hi lo)) rest := by
  simp only [decode, if_neg hc, hw]

/-- A fact about every byte, from its 256 instances. -/
theorem forall_byte {p : Byte → Prop} (h : ∀ k : Fin 256, p (BitVec.ofFin k)) (v : Byte) : p v := h v.toFin

/-! ### The slots of the two tables: well formed, their bytes, their length -/

theorem cbSlot_encode (op2 : Byte) :
    (cbSlot op2).WellFormed ∧ encode (cbSlot op2) = [cbByte, op2] ∧ (cbSlot op2).descriptor.length = 2 := by
  revert op2; decide +kernel

theorem slot_none_encode {op : Byte} (hc : op ≠ cbByte) (hi : immediateOf op = .none) :
    (unprefixedSlot op 0 0).WellFormed ∧ encode (unprefixedSlot op 0 0) = [op]
      ∧ (unprefixedSlot op 0 0).descriptor.length = 1 := by
  revert op; decide +kernel

theorem mem_of_byte : ∀ op : Byte, immediateOf op = .byte → op ∈ byteImmediateBytes := by
  unfold immediateOf
  intro op h
  by_contra hn
  simp [hn] at h
  split at h <;> cases h

theorem mem_of_word : ∀ op : Byte, immediateOf op = .word → op ∈ wordImmediateBytes := by
  unfold immediateOf
  intro op h
  by_contra hn
  simp [hn] at h
  split at h <;> cases h

theorem slot_byte_encode {op : Byte} (hi : immediateOf op = .byte) (n : Byte) :
    (unprefixedSlot op n 0).WellFormed ∧ encode (unprefixedSlot op n 0) = [op, n]
      ∧ (unprefixedSlot op n 0).descriptor.length = 2 := by
  have h := mem_of_byte op hi
  simp only [byteImmediateBytes, List.mem_cons, List.not_mem_nil, or_false] at h
  rcases h with rfl | rfl | rfl | rfl | rfl | rfl | rfl | rfl | rfl | rfl | rfl | rfl | rfl | rfl | rfl | rfl | rfl | rfl | rfl | rfl | rfl | rfl | rfl | rfl | rfl | rfl <;> exact ⟨rfl, rfl, rfl⟩

theorem slot_word_encode {op : Byte} (hi : immediateOf op = .word) (nn : Word) :
    (unprefixedSlot op 0 nn).WellFormed ∧ encode (unprefixedSlot op 0 nn) = [op, lo8 nn, hi8 nn]
      ∧ (unprefixedSlot op 0 nn).descriptor.length = 3 := by
  have h := mem_of_word op hi
  simp only [wordImmediateBytes, List.mem_cons, List.not_mem_nil, or_false] at h
  rcases h with rfl | rfl | rfl | rfl | rfl | rfl | rfl | rfl | rfl | rfl | rfl | rfl | rfl | rfl | rfl | rfl | rfl <;> exact ⟨rfl, rfl, rfl⟩

/-! ### Which slots are illegal -/

theorem slot_byte_not_illegal {op : Byte} (hi : immediateOf op = .byte) (n : Byte) : (unprefixedSlot op n 0).isIllegal = false := by
  have h := mem_of_byte op hi
  simp only [byteImmediateBytes, List.mem_cons, List.not_mem_nil, or_false] at h
  rcases h with rfl | rfl | rfl | rfl | rfl | rfl | rfl | rfl | rfl | rfl | rfl | rfl | rfl | rfl | rfl | rfl | rfl | rfl | rfl | rfl | rfl | rfl | rfl | rfl | rfl | rfl <;> rfl

theorem slot_word_not_illegal {op : Byte} (hi : immediateOf op = .word) (nn : Word) :
    (unprefixedSlot op 0 nn).isIllegal = false := by
  have h := mem_of_word op hi
  simp only [wordImmediateBytes, List.mem_cons, List.not_mem_nil, or_false] at h
  rcases h with rfl | rfl | rfl | rfl | rfl | rfl | rfl | rfl | rfl | rfl | rfl | rfl | rfl | rfl | rfl | rfl | rfl <;> rfl

theorem slot_illegal (op : Byte) : (unprefixedSlot op 0 0).isIllegal = illegalBytes.contains op := by
  revert op; decide +kernel

theorem cbSlot_not_illegal (op2 : Byte) : (cbSlot op2).isIllegal = false := by
  revert op2; decide +kernel

end Sys2Proof
end

