-- ==== Sys2Proof/Laws/Flags.lean ====
section
/-! SUPPORT. The flags after a write of all four, and the byte they make. -/

namespace Sys2Proof.Machine

@[simp] theorem packFlags_zero (z n h c : Bool) : (packFlags z n h c)[7] = z := by cases z <;> cases n <;> cases h <;> cases c <;> rfl
@[simp] theorem packFlags_subtract (z n h c : Bool) : (packFlags z n h c)[6] = n := by cases z <;> cases n <;> cases h <;> cases c <;> rfl
@[simp] theorem packFlags_half (z n h c : Bool) : (packFlags z n h c)[5] = h := by cases z <;> cases n <;> cases h <;> cases c <;> rfl
@[simp] theorem packFlags_carry (z n h c : Bool) : (packFlags z n h c)[4] = c := by cases z <;> cases n <;> cases h <;> cases c <;> rfl
theorem packFlags_toNat (z n h c : Bool) : (packFlags z n h c).toNat = flagsNat z n h c := by cases z <;> cases n <;> cases h <;> cases c <;> rfl
@[simp] theorem packFlags_low (z n h c : Bool) : packFlags z n h c &&& 0x0F = 0 := by cases z <;> cases n <;> cases h <;> cases c <;> rfl

/-- The low nibble of a byte masked with 0xF0 is zero: the values `POP AF` and `reset` leave in `F`. -/
theorem highNibble_low (v : Byte) : v &&& 0xF0 &&& 0x0F = 0 := by
  rw [BitVec.and_assoc]; simp

@[simp] theorem State.zf_setFlags (s : State) (z n h c : Bool) : (s.setFlags z n h c).zf = z := packFlags_zero z n h c
@[simp] theorem State.nf_setFlags (s : State) (z n h c : Bool) : (s.setFlags z n h c).nf = n := packFlags_subtract z n h c
@[simp] theorem State.hf_setFlags (s : State) (z n h c : Bool) : (s.setFlags z n h c).hf = h := packFlags_half z n h c
@[simp] theorem State.cy_setFlags (s : State) (z n h c : Bool) : (s.setFlags z n h c).cy = c := packFlags_carry z n h c

/-- The condition an instruction tests, on the bits of `F`. -/
theorem State.cond_eq_holds (s : State) (cc : Cond) : s.cond cc = cc.holds s.f := by cases cc <;> rfl

/-- The flags after `setFlags`, for any state that has that `F`. -/
theorem flagsAre_of_f {t : State} {z n h c : Bool} (hf : t.f = packFlags z n h c) : FlagsAre t z n h c :=
  ⟨by rw [hf]; exact packFlags_toNat z n h c, by simp [State.zf, hf], by simp [State.nf, hf], by simp [State.hf, hf], by simp [State.cy, hf], by rw [hf]; exact packFlags_low z n h c⟩

end Sys2Proof.Machine
end

