-- ==== Sys2Proof/Laws/Forms.lean ====
section
/-! SUPPORT. The instructions by form: a form is an instruction's name with its operand codes as arguments, every instruction is
one, and its meaning is one shared operation of those arguments. A fact about all instructions is proved form by form. -/

namespace Sys2Proof.Machine

/-- The instruction forms of 30_encoding.md R97 and R98. -/
inductive Form where
  | ldRegReg (dst r : Reg8)
  | ldRegImm (dst : Reg8) (n : Byte)
  | ldRegAtHl (dst : Reg8)
  | ldAtHlReg (r : Reg8)
  | ldAtHlImm (n : Byte)
  | loadA (m : MemOperand)
  | storeA (m : MemOperand)
  | loadInc
  | loadDec
  | storeInc
  | storeDec
  | ldPairImm (p : Pair16) (nn : Word)
  | ldAtNnSp (nn : Word)
  | ldSpHl
  | ldHlSpE (e : Byte)
  | addSpE (e : Byte)
  | push (p : StackPair)
  | pop (p : StackPair)
  | alu (op : AluOp) (x : AluOperand)
  | incReg (r : Reg8)
  | decReg (r : Reg8)
  | incAtHl
  | decAtHl
  | daa
  | cpl
  | scf
  | ccf
  | addHlPair (p : Pair16)
  | incPair (p : Pair16)
  | decPair (p : Pair16)
  | rlca
  | rrca
  | rla
  | rra
  | rotReg (op : RotOp) (r : Reg8)
  | rotAtHl (op : RotOp)
  | bitReg (b : Fin 8) (r : Reg8)
  | bitAtHl (b : Fin 8)
  | resReg (b : Fin 8) (r : Reg8)
  | resAtHl (b : Fin 8)
  | setReg (b : Fin 8) (r : Reg8)
  | setAtHl (b : Fin 8)
  | jp (nn : Word)
  | jpHl
  | jr (e : Byte)
  | jpCond (cc : Cond) (nn : Word)
  | jrCond (cc : Cond) (e : Byte)
  | call (nn : Word)
  | callCond (cc : Cond) (nn : Word)
  | rst (k : Fin 8)
  | ret
  | retCond (cc : Cond)
  | reti
  | nop
  | di
  | ei
  | halt
  | stop (n : Byte)
  | illegal (op : Byte)
  | prefixCb
  deriving DecidableEq, Repr

/-- The state after an ALU operand's access. -/
def AluOperand.after (s : State) : AluOperand → State
  | .reg _ => s
  | .atHl => s.busRead s.hl
  | .imm _ => s

/-- The instruction of a form. -/
def Form.instr : Form → Instr
  | .ldRegReg dst r => .ldRegReg dst r
  | .ldRegImm dst n => .ldRegImm dst n
  | .ldRegAtHl dst => .ldRegAtHl dst
  | .ldAtHlReg r => .ldAtHlReg r
  | .ldAtHlImm n => .ldAtHlN n
  | .loadA m => m.load
  | .storeA m => m.store
  | .loadInc => .ldAAtHlInc
  | .loadDec => .ldAAtHlDec
  | .storeInc => .ldAtHlIncA
  | .storeDec => .ldAtHlDecA
  | .ldPairImm p nn => .ldPairImm p nn
  | .ldAtNnSp nn => .ldAtNnSp nn
  | .ldSpHl => .ldSpHl
  | .ldHlSpE e => .ldHlSpE e
  | .addSpE e => .addSpE e
  | .push p => .push p
  | .pop p => .pop p
  | .alu op x => x.instr op
  | .incReg r => .incReg r
  | .decReg r => .decReg r
  | .incAtHl => .incAtHl
  | .decAtHl => .decAtHl
  | .daa => .daa
  | .cpl => .cpl
  | .scf => .scf
  | .ccf => .ccf
  | .addHlPair p => .addHlPair p
  | .incPair p => .incPair p
  | .decPair p => .decPair p
  | .rlca => .rlca
  | .rrca => .rrca
  | .rla => .rla
  | .rra => .rra
  | .rotReg op r => .rotReg op r
  | .rotAtHl op => .rotAtHl op
  | .bitReg b r => .bitReg b r
  | .bitAtHl b => .bitAtHl b
  | .resReg b r => .resReg b r
  | .resAtHl b => .resAtHl b
  | .setReg b r => .setReg b r
  | .setAtHl b => .setAtHl b
  | .jp nn => .jpNn nn
  | .jpHl => .jpHl
  | .jr e => .jrE e
  | .jpCond cc nn => .jpCond cc nn
  | .jrCond cc e => .jrCond cc e
  | .call nn => .callNn nn
  | .callCond cc nn => .callCond cc nn
  | .rst k => .rst k
  | .ret => .ret
  | .retCond cc => .retCond cc
  | .reti => .reti
  | .nop => .nop
  | .di => .di
  | .ei => .ei
  | .halt => .halt
  | .stop n => .stop n
  | .illegal op => .illegal op
  | .prefixCb => .prefixCb

/-- The meaning of a form. -/
def Form.run (s : State) : Form → Host.Outcome State Fault Refusal
  | .ldRegReg dst r => loadReg dst (s.getReg r) 1 s
  | .ldRegImm dst n => loadReg dst n 2 s
  | .ldRegAtHl dst => loadMem dst s.hl 2 s
  | .ldAtHlReg r => storeMem s.hl (s.getReg r) 2 s
  | .ldAtHlImm n => storeMem s.hl n 3 s
  | .loadA m => loadMem .a (m.address s) m.cycles s
  | .storeA m => storeMem (m.address s) s.a m.cycles s
  | .loadInc => loadStep (s.hl + 1) s
  | .loadDec => loadStep (s.hl - 1) s
  | .storeInc => storeStep (s.hl + 1) s
  | .storeDec => storeStep (s.hl - 1) s
  | .ldPairImm p nn => loadPair p nn s
  | .ldAtNnSp nn => retire 5 (s.busWrite16 nn s.sp)
  | .ldSpHl => retire 2 (s.setSp s.hl)
  | .ldHlSpE e => loadHlSpE e s
  | .addSpE e => addSp e s
  | .push p => pushPair p s
  | .pop p => popPair p s
  | .alu op x => retire x.cycles (aluApply op (x.value s) (x.after s))
  | .incReg r => Machine.incReg r s
  | .decReg r => Machine.decReg r s
  | .incAtHl => Machine.incAtHl s
  | .decAtHl => Machine.decAtHl s
  | .daa => decimalAdjust s
  | .cpl => complementA s
  | .scf => retire 1 (s.setFlags s.zf false false true)
  | .ccf => retire 1 (s.setFlags s.zf false false (!s.cy))
  | .addHlPair p => addHl p s
  | .incPair p => retire 2 (s.setPair p (s.getPair p + 1))
  | .decPair p => retire 2 (s.setPair p (s.getPair p - 1))
  | .rlca => rotateA .rlc s
  | .rrca => rotateA .rrc s
  | .rla => rotateA .rl s
  | .rra => rotateA .rr s
  | .rotReg op r => rotateReg op r s
  | .rotAtHl op => rotateAtHl op s
  | .bitReg b r => Machine.bitReg b r s
  | .bitAtHl b => Machine.bitAtHl b s
  | .resReg b r => Machine.resReg b r s
  | .resAtHl b => Machine.resAtHl b s
  | .setReg b r => Machine.setReg b r s
  | .setAtHl b => Machine.setAtHl b s
  | .jp nn => jump nn 4 s
  | .jpHl => jump s.hl 1 s
  | .jr e => jump (relativeTarget s.pc e) 3 s
  | .jpCond cc nn => jumpIf (s.cond cc) nn s
  | .jrCond cc e => jumpRelativeIf (s.cond cc) e s
  | .call nn => Machine.call nn 6 s
  | .callCond cc nn => callIf (s.cond cc) nn s
  | .rst k => Machine.call (BitVec.ofNat 16 (8 * k)) 4 s
  | .ret => Machine.ret 4 s
  | .retCond cc => retIf (s.cond cc) s
  | .reti => retire 4 s.returnFromInterrupt
  | .nop => retire 1 s
  | .di => retire 1 s.disableInterrupts
  | .ei => retire 1 { s with imeSched := true }
  | .halt => Machine.halt s
  | .stop n => stopCore n s
  | .illegal _ => .next s.raiseIllegal
  | .prefixCb => runPrefixed s

/-- The high page is the addresses whose high byte is 0xFF. -/
theorem highPage_eq (v : Byte) : highPage v = ofBytes 0xFF v := by
  have := v.isLt
  apply BitVec.eq_of_toNat_eq
  rw [ofBytes_toNat]
  simp [highPage]
  omega


/-- The meaning of an instruction is that of its form. -/
theorem exec_form (f : Form) (s : State) : exec f.instr s = f.run s := by
  cases f with
  | ldRegReg dst r => cases dst <;> cases r <;> rfl
  | ldRegImm dst n => cases dst <;> rfl
  | ldRegAtHl dst => cases dst <;> rfl
  | ldAtHlReg r => cases r <;> rfl
  | ldAtHlImm n => rfl
  | loadA m =>
    cases m <;> first
      | rfl
      | exact congrArg (fun addr => loadMem .a addr _ s) (highPage_eq _)
  | storeA m =>
    cases m <;> first
      | rfl
      | exact congrArg (fun addr => storeMem addr s.a _ s) (highPage_eq _)
  | loadInc => rfl
  | loadDec => rfl
  | storeInc => rfl
  | storeDec => rfl
  | ldPairImm p nn => cases p <;> rfl
  | ldAtNnSp nn => rfl
  | ldSpHl => rfl
  | ldHlSpE e => rfl
  | addSpE e => rfl
  | push p => cases p <;> rfl
  | pop p => cases p <;> rfl
  | alu op x =>
    cases x with
    | reg r => cases op <;> cases r <;> rfl
    | atHl => cases op <;> rfl
    | imm n => cases op <;> rfl
  | incReg r => cases r <;> rfl
  | decReg r => cases r <;> rfl
  | incAtHl => rfl
  | decAtHl => rfl
  | daa => rfl
  | cpl => rfl
  | scf => rfl
  | ccf => rfl
  | addHlPair p => cases p <;> rfl
  | incPair p => cases p <;> rfl
  | decPair p => cases p <;> rfl
  | rlca => rfl
  | rrca => rfl
  | rla => rfl
  | rra => rfl
  | rotReg op r => cases op <;> cases r <;> rfl
  | rotAtHl op => cases op <;> rfl
  | bitReg b r => fin_cases b <;> cases r <;> rfl
  | bitAtHl b => fin_cases b <;> rfl
  | resReg b r => fin_cases b <;> cases r <;> rfl
  | resAtHl b => fin_cases b <;> rfl
  | setReg b r => fin_cases b <;> cases r <;> rfl
  | setAtHl b => fin_cases b <;> rfl
  | jp nn => rfl
  | jpHl => rfl
  | jr e => rfl
  | jpCond cc nn => cases cc <;> rfl
  | jrCond cc e => cases cc <;> rfl
  | call nn => rfl
  | callCond cc nn => cases cc <;> rfl
  | rst k => fin_cases k <;> rfl
  | ret => rfl
  | retCond cc => cases cc <;> rfl
  | reti => rfl
  | nop => rfl
  | di => rfl
  | ei => rfl
  | halt => rfl
  | stop n => rfl
  | illegal op => rfl
  | prefixCb => rfl

/-- The form of an instruction. -/
def formOf : Instr → Form
  | .nop => .nop
  | .ldBcNn nn => .ldPairImm .bc nn
  | .ldAtBcA => .storeA .atBc
  | .incBc => .incPair .bc
  | .incB => .incReg .b
  | .decB => .decReg .b
  | .ldBN n => .ldRegImm .b n
  | .rlca => .rlca
  | .ldAtNnSp nn => .ldAtNnSp nn
  | .addHlBc => .addHlPair .bc
  | .ldAAtBc => .loadA .atBc
  | .decBc => .decPair .bc
  | .incC => .incReg .c
  | .decC => .decReg .c
  | .ldCN n => .ldRegImm .c n
  | .rrca => .rrca
  | .stop n => .stop n
  | .ldDeNn nn => .ldPairImm .de nn
  | .ldAtDeA => .storeA .atDe
  | .incDe => .incPair .de
  | .incD => .incReg .d
  | .decD => .decReg .d
  | .ldDN n => .ldRegImm .d n
  | .rla => .rla
  | .jrE e => .jr e
  | .addHlDe => .addHlPair .de
  | .ldAAtDe => .loadA .atDe
  | .decDe => .decPair .de
  | .incE => .incReg .e
  | .decE => .decReg .e
  | .ldEN n => .ldRegImm .e n
  | .rra => .rra
  | .jrNzE e => .jrCond .nz e
  | .ldHlNn nn => .ldPairImm .hl nn
  | .ldAtHlIncA => .storeInc
  | .incHl => .incPair .hl
  | .incH => .incReg .h
  | .decH => .decReg .h
  | .ldHN n => .ldRegImm .h n
  | .daa => .daa
  | .jrZE e => .jrCond .z e
  | .addHlHl => .addHlPair .hl
  | .ldAAtHlInc => .loadInc
  | .decHl => .decPair .hl
  | .incL => .incReg .l
  | .decL => .decReg .l
  | .ldLN n => .ldRegImm .l n
  | .cpl => .cpl
  | .jrNcE e => .jrCond .nc e
  | .ldSpNn nn => .ldPairImm .sp nn
  | .ldAtHlDecA => .storeDec
  | .incSp => .incPair .sp
  | .incAtHl => .incAtHl
  | .decAtHl => .decAtHl
  | .ldAtHlN n => .ldAtHlImm n
  | .scf => .scf
  | .jrCE e => .jrCond .c e
  | .addHlSp => .addHlPair .sp
  | .ldAAtHlDec => .loadDec
  | .decSp => .decPair .sp
  | .incA => .incReg .a
  | .decA => .decReg .a
  | .ldAN n => .ldRegImm .a n
  | .ccf => .ccf
  | .ldBB => .ldRegReg .b .b
  | .ldBC => .ldRegReg .b .c
  | .ldBD => .ldRegReg .b .d
  | .ldBE => .ldRegReg .b .e
  | .ldBH => .ldRegReg .b .h
  | .ldBL => .ldRegReg .b .l
  | .ldBAtHl => .ldRegAtHl .b
  | .ldBA => .ldRegReg .b .a
  | .ldCB => .ldRegReg .c .b
  | .ldCC => .ldRegReg .c .c
  | .ldCD => .ldRegReg .c .d
  | .ldCE => .ldRegReg .c .e
  | .ldCH => .ldRegReg .c .h
  | .ldCL => .ldRegReg .c .l
  | .ldCAtHl => .ldRegAtHl .c
  | .ldCA => .ldRegReg .c .a
  | .ldDB => .ldRegReg .d .b
  | .ldDC => .ldRegReg .d .c
  | .ldDD => .ldRegReg .d .d
  | .ldDE => .ldRegReg .d .e
  | .ldDH => .ldRegReg .d .h
  | .ldDL => .ldRegReg .d .l
  | .ldDAtHl => .ldRegAtHl .d
  | .ldDA => .ldRegReg .d .a
  | .ldEB => .ldRegReg .e .b
  | .ldEC => .ldRegReg .e .c
  | .ldED => .ldRegReg .e .d
  | .ldEE => .ldRegReg .e .e
  | .ldEH => .ldRegReg .e .h
  | .ldEL => .ldRegReg .e .l
  | .ldEAtHl => .ldRegAtHl .e
  | .ldEA => .ldRegReg .e .a
  | .ldHB => .ldRegReg .h .b
  | .ldHC => .ldRegReg .h .c
  | .ldHD => .ldRegReg .h .d
  | .ldHE => .ldRegReg .h .e
  | .ldHH => .ldRegReg .h .h
  | .ldHL => .ldRegReg .h .l
  | .ldHAtHl => .ldRegAtHl .h
  | .ldHA => .ldRegReg .h .a
  | .ldLB => .ldRegReg .l .b
  | .ldLC => .ldRegReg .l .c
  | .ldLD => .ldRegReg .l .d
  | .ldLE => .ldRegReg .l .e
  | .ldLH => .ldRegReg .l .h
  | .ldLL => .ldRegReg .l .l
  | .ldLAtHl => .ldRegAtHl .l
  | .ldLA => .ldRegReg .l .a
  | .ldAtHlB => .ldAtHlReg .b
  | .ldAtHlC => .ldAtHlReg .c
  | .ldAtHlD => .ldAtHlReg .d
  | .ldAtHlE => .ldAtHlReg .e
  | .ldAtHlH => .ldAtHlReg .h
  | .ldAtHlL => .ldAtHlReg .l
  | .halt => .halt
  | .ldAtHlA => .ldAtHlReg .a
  | .ldAB => .ldRegReg .a .b
  | .ldAC => .ldRegReg .a .c
  | .ldAD => .ldRegReg .a .d
  | .ldAE => .ldRegReg .a .e
  | .ldAH => .ldRegReg .a .h
  | .ldAL => .ldRegReg .a .l
  | .ldAAtHl => .ldRegAtHl .a
  | .ldAA => .ldRegReg .a .a
  | .addAB => .alu .add (.reg .b)
  | .addAC => .alu .add (.reg .c)
  | .addAD => .alu .add (.reg .d)
  | .addAE => .alu .add (.reg .e)
  | .addAH => .alu .add (.reg .h)
  | .addAL => .alu .add (.reg .l)
  | .addAAtHl => .alu .add .atHl
  | .addAA => .alu .add (.reg .a)
  | .adcAB => .alu .adc (.reg .b)
  | .adcAC => .alu .adc (.reg .c)
  | .adcAD => .alu .adc (.reg .d)
  | .adcAE => .alu .adc (.reg .e)
  | .adcAH => .alu .adc (.reg .h)
  | .adcAL => .alu .adc (.reg .l)
  | .adcAAtHl => .alu .adc .atHl
  | .adcAA => .alu .adc (.reg .a)
  | .subB => .alu .sub (.reg .b)
  | .subC => .alu .sub (.reg .c)
  | .subD => .alu .sub (.reg .d)
  | .subE => .alu .sub (.reg .e)
  | .subH => .alu .sub (.reg .h)
  | .subL => .alu .sub (.reg .l)
  | .subAtHl => .alu .sub .atHl
  | .subA => .alu .sub (.reg .a)
  | .sbcAB => .alu .sbc (.reg .b)
  | .sbcAC => .alu .sbc (.reg .c)
  | .sbcAD => .alu .sbc (.reg .d)
  | .sbcAE => .alu .sbc (.reg .e)
  | .sbcAH => .alu .sbc (.reg .h)
  | .sbcAL => .alu .sbc (.reg .l)
  | .sbcAAtHl => .alu .sbc .atHl
  | .sbcAA => .alu .sbc (.reg .a)
  | .andB => .alu .and (.reg .b)
  | .andC => .alu .and (.reg .c)
  | .andD => .alu .and (.reg .d)
  | .andE => .alu .and (.reg .e)
  | .andH => .alu .and (.reg .h)
  | .andL => .alu .and (.reg .l)
  | .andAtHl => .alu .and .atHl
  | .andA => .alu .and (.reg .a)
  | .xorB => .alu .xor (.reg .b)
  | .xorC => .alu .xor (.reg .c)
  | .xorD => .alu .xor (.reg .d)
  | .xorE => .alu .xor (.reg .e)
  | .xorH => .alu .xor (.reg .h)
  | .xorL => .alu .xor (.reg .l)
  | .xorAtHl => .alu .xor .atHl
  | .xorA => .alu .xor (.reg .a)
  | .orB => .alu .or (.reg .b)
  | .orC => .alu .or (.reg .c)
  | .orD => .alu .or (.reg .d)
  | .orE => .alu .or (.reg .e)
  | .orH => .alu .or (.reg .h)
  | .orL => .alu .or (.reg .l)
  | .orAtHl => .alu .or .atHl
  | .orA => .alu .or (.reg .a)
  | .cpB => .alu .cp (.reg .b)
  | .cpC => .alu .cp (.reg .c)
  | .cpD => .alu .cp (.reg .d)
  | .cpE => .alu .cp (.reg .e)
  | .cpH => .alu .cp (.reg .h)
  | .cpL => .alu .cp (.reg .l)
  | .cpAtHl => .alu .cp .atHl
  | .cpA => .alu .cp (.reg .a)
  | .retNz => .retCond .nz
  | .popBc => .pop .bc
  | .jpNzNn nn => .jpCond .nz nn
  | .jpNn nn => .jp nn
  | .callNzNn nn => .callCond .nz nn
  | .pushBc => .push .bc
  | .addAN n => .alu .add (.imm n)
  | .rst00 => .rst 0
  | .retZ => .retCond .z
  | .ret => .ret
  | .jpZNn nn => .jpCond .z nn
  | .prefixCb => .prefixCb
  | .callZNn nn => .callCond .z nn
  | .callNn nn => .call nn
  | .adcAN n => .alu .adc (.imm n)
  | .rst08 => .rst 1
  | .retNc => .retCond .nc
  | .popDe => .pop .de
  | .jpNcNn nn => .jpCond .nc nn
  | .callNcNn nn => .callCond .nc nn
  | .pushDe => .push .de
  | .subN n => .alu .sub (.imm n)
  | .rst10 => .rst 2
  | .retC => .retCond .c
  | .reti => .reti
  | .jpCNn nn => .jpCond .c nn
  | .callCNn nn => .callCond .c nn
  | .sbcAN n => .alu .sbc (.imm n)
  | .rst18 => .rst 3
  | .ldhAtNA n => .storeA (.highN n)
  | .popHl => .pop .hl
  | .ldhAtCA => .storeA .highC
  | .pushHl => .push .hl
  | .andN n => .alu .and (.imm n)
  | .rst20 => .rst 4
  | .addSpE e => .addSpE e
  | .jpHl => .jpHl
  | .ldAtNnA nn => .storeA (.atNn nn)
  | .xorN n => .alu .xor (.imm n)
  | .rst28 => .rst 5
  | .ldhAAtN n => .loadA (.highN n)
  | .popAf => .pop .af
  | .ldhAAtC => .loadA .highC
  | .di => .di
  | .pushAf => .push .af
  | .orN n => .alu .or (.imm n)
  | .rst30 => .rst 6
  | .ldHlSpE e => .ldHlSpE e
  | .ldSpHl => .ldSpHl
  | .ldAAtNn nn => .loadA (.atNn nn)
  | .ei => .ei
  | .cpN n => .alu .cp (.imm n)
  | .rst38 => .rst 7
  | .rlcB => .rotReg .rlc .b
  | .rlcC => .rotReg .rlc .c
  | .rlcD => .rotReg .rlc .d
  | .rlcE => .rotReg .rlc .e
  | .rlcH => .rotReg .rlc .h
  | .rlcL => .rotReg .rlc .l
  | .rlcAtHl => .rotAtHl .rlc
  | .rlcA => .rotReg .rlc .a
  | .rrcB => .rotReg .rrc .b
  | .rrcC => .rotReg .rrc .c
  | .rrcD => .rotReg .rrc .d
  | .rrcE => .rotReg .rrc .e
  | .rrcH => .rotReg .rrc .h
  | .rrcL => .rotReg .rrc .l
  | .rrcAtHl => .rotAtHl .rrc
  | .rrcA => .rotReg .rrc .a
  | .rlB => .rotReg .rl .b
  | .rlC => .rotReg .rl .c
  | .rlD => .rotReg .rl .d
  | .rlE => .rotReg .rl .e
  | .rlH => .rotReg .rl .h
  | .rlL => .rotReg .rl .l
  | .rlAtHl => .rotAtHl .rl
  | .rlA => .rotReg .rl .a
  | .rrB => .rotReg .rr .b
  | .rrC => .rotReg .rr .c
  | .rrD => .rotReg .rr .d
  | .rrE => .rotReg .rr .e
  | .rrH => .rotReg .rr .h
  | .rrL => .rotReg .rr .l
  | .rrAtHl => .rotAtHl .rr
  | .rrA => .rotReg .rr .a
  | .slaB => .rotReg .sla .b
  | .slaC => .rotReg .sla .c
  | .slaD => .rotReg .sla .d
  | .slaE => .rotReg .sla .e
  | .slaH => .rotReg .sla .h
  | .slaL => .rotReg .sla .l
  | .slaAtHl => .rotAtHl .sla
  | .slaA => .rotReg .sla .a
  | .sraB => .rotReg .sra .b
  | .sraC => .rotReg .sra .c
  | .sraD => .rotReg .sra .d
  | .sraE => .rotReg .sra .e
  | .sraH => .rotReg .sra .h
  | .sraL => .rotReg .sra .l
  | .sraAtHl => .rotAtHl .sra
  | .sraA => .rotReg .sra .a
  | .swapB => .rotReg .swap .b
  | .swapC => .rotReg .swap .c
  | .swapD => .rotReg .swap .d
  | .swapE => .rotReg .swap .e
  | .swapH => .rotReg .swap .h
  | .swapL => .rotReg .swap .l
  | .swapAtHl => .rotAtHl .swap
  | .swapA => .rotReg .swap .a
  | .srlB => .rotReg .srl .b
  | .srlC => .rotReg .srl .c
  | .srlD => .rotReg .srl .d
  | .srlE => .rotReg .srl .e
  | .srlH => .rotReg .srl .h
  | .srlL => .rotReg .srl .l
  | .srlAtHl => .rotAtHl .srl
  | .srlA => .rotReg .srl .a
  | .bit0B => .bitReg 0 .b
  | .bit0C => .bitReg 0 .c
  | .bit0D => .bitReg 0 .d
  | .bit0E => .bitReg 0 .e
  | .bit0H => .bitReg 0 .h
  | .bit0L => .bitReg 0 .l
  | .bit0AtHl => .bitAtHl 0
  | .bit0A => .bitReg 0 .a
  | .bit1B => .bitReg 1 .b
  | .bit1C => .bitReg 1 .c
  | .bit1D => .bitReg 1 .d
  | .bit1E => .bitReg 1 .e
  | .bit1H => .bitReg 1 .h
  | .bit1L => .bitReg 1 .l
  | .bit1AtHl => .bitAtHl 1
  | .bit1A => .bitReg 1 .a
  | .bit2B => .bitReg 2 .b
  | .bit2C => .bitReg 2 .c
  | .bit2D => .bitReg 2 .d
  | .bit2E => .bitReg 2 .e
  | .bit2H => .bitReg 2 .h
  | .bit2L => .bitReg 2 .l
  | .bit2AtHl => .bitAtHl 2
  | .bit2A => .bitReg 2 .a
  | .bit3B => .bitReg 3 .b
  | .bit3C => .bitReg 3 .c
  | .bit3D => .bitReg 3 .d
  | .bit3E => .bitReg 3 .e
  | .bit3H => .bitReg 3 .h
  | .bit3L => .bitReg 3 .l
  | .bit3AtHl => .bitAtHl 3
  | .bit3A => .bitReg 3 .a
  | .bit4B => .bitReg 4 .b
  | .bit4C => .bitReg 4 .c
  | .bit4D => .bitReg 4 .d
  | .bit4E => .bitReg 4 .e
  | .bit4H => .bitReg 4 .h
  | .bit4L => .bitReg 4 .l
  | .bit4AtHl => .bitAtHl 4
  | .bit4A => .bitReg 4 .a
  | .bit5B => .bitReg 5 .b
  | .bit5C => .bitReg 5 .c
  | .bit5D => .bitReg 5 .d
  | .bit5E => .bitReg 5 .e
  | .bit5H => .bitReg 5 .h
  | .bit5L => .bitReg 5 .l
  | .bit5AtHl => .bitAtHl 5
  | .bit5A => .bitReg 5 .a
  | .bit6B => .bitReg 6 .b
  | .bit6C => .bitReg 6 .c
  | .bit6D => .bitReg 6 .d
  | .bit6E => .bitReg 6 .e
  | .bit6H => .bitReg 6 .h
  | .bit6L => .bitReg 6 .l
  | .bit6AtHl => .bitAtHl 6
  | .bit6A => .bitReg 6 .a
  | .bit7B => .bitReg 7 .b
  | .bit7C => .bitReg 7 .c
  | .bit7D => .bitReg 7 .d
  | .bit7E => .bitReg 7 .e
  | .bit7H => .bitReg 7 .h
  | .bit7L => .bitReg 7 .l
  | .bit7AtHl => .bitAtHl 7
  | .bit7A => .bitReg 7 .a
  | .res0B => .resReg 0 .b
  | .res0C => .resReg 0 .c
  | .res0D => .resReg 0 .d
  | .res0E => .resReg 0 .e
  | .res0H => .resReg 0 .h
  | .res0L => .resReg 0 .l
  | .res0AtHl => .resAtHl 0
  | .res0A => .resReg 0 .a
  | .res1B => .resReg 1 .b
  | .res1C => .resReg 1 .c
  | .res1D => .resReg 1 .d
  | .res1E => .resReg 1 .e
  | .res1H => .resReg 1 .h
  | .res1L => .resReg 1 .l
  | .res1AtHl => .resAtHl 1
  | .res1A => .resReg 1 .a
  | .res2B => .resReg 2 .b
  | .res2C => .resReg 2 .c
  | .res2D => .resReg 2 .d
  | .res2E => .resReg 2 .e
  | .res2H => .resReg 2 .h
  | .res2L => .resReg 2 .l
  | .res2AtHl => .resAtHl 2
  | .res2A => .resReg 2 .a
  | .res3B => .resReg 3 .b
  | .res3C => .resReg 3 .c
  | .res3D => .resReg 3 .d
  | .res3E => .resReg 3 .e
  | .res3H => .resReg 3 .h
  | .res3L => .resReg 3 .l
  | .res3AtHl => .resAtHl 3
  | .res3A => .resReg 3 .a
  | .res4B => .resReg 4 .b
  | .res4C => .resReg 4 .c
  | .res4D => .resReg 4 .d
  | .res4E => .resReg 4 .e
  | .res4H => .resReg 4 .h
  | .res4L => .resReg 4 .l
  | .res4AtHl => .resAtHl 4
  | .res4A => .resReg 4 .a
  | .res5B => .resReg 5 .b
  | .res5C => .resReg 5 .c
  | .res5D => .resReg 5 .d
  | .res5E => .resReg 5 .e
  | .res5H => .resReg 5 .h
  | .res5L => .resReg 5 .l
  | .res5AtHl => .resAtHl 5
  | .res5A => .resReg 5 .a
  | .res6B => .resReg 6 .b
  | .res6C => .resReg 6 .c
  | .res6D => .resReg 6 .d
  | .res6E => .resReg 6 .e
  | .res6H => .resReg 6 .h
  | .res6L => .resReg 6 .l
  | .res6AtHl => .resAtHl 6
  | .res6A => .resReg 6 .a
  | .res7B => .resReg 7 .b
  | .res7C => .resReg 7 .c
  | .res7D => .resReg 7 .d
  | .res7E => .resReg 7 .e
  | .res7H => .resReg 7 .h
  | .res7L => .resReg 7 .l
  | .res7AtHl => .resAtHl 7
  | .res7A => .resReg 7 .a
  | .set0B => .setReg 0 .b
  | .set0C => .setReg 0 .c
  | .set0D => .setReg 0 .d
  | .set0E => .setReg 0 .e
  | .set0H => .setReg 0 .h
  | .set0L => .setReg 0 .l
  | .set0AtHl => .setAtHl 0
  | .set0A => .setReg 0 .a
  | .set1B => .setReg 1 .b
  | .set1C => .setReg 1 .c
  | .set1D => .setReg 1 .d
  | .set1E => .setReg 1 .e
  | .set1H => .setReg 1 .h
  | .set1L => .setReg 1 .l
  | .set1AtHl => .setAtHl 1
  | .set1A => .setReg 1 .a
  | .set2B => .setReg 2 .b
  | .set2C => .setReg 2 .c
  | .set2D => .setReg 2 .d
  | .set2E => .setReg 2 .e
  | .set2H => .setReg 2 .h
  | .set2L => .setReg 2 .l
  | .set2AtHl => .setAtHl 2
  | .set2A => .setReg 2 .a
  | .set3B => .setReg 3 .b
  | .set3C => .setReg 3 .c
  | .set3D => .setReg 3 .d
  | .set3E => .setReg 3 .e
  | .set3H => .setReg 3 .h
  | .set3L => .setReg 3 .l
  | .set3AtHl => .setAtHl 3
  | .set3A => .setReg 3 .a
  | .set4B => .setReg 4 .b
  | .set4C => .setReg 4 .c
  | .set4D => .setReg 4 .d
  | .set4E => .setReg 4 .e
  | .set4H => .setReg 4 .h
  | .set4L => .setReg 4 .l
  | .set4AtHl => .setAtHl 4
  | .set4A => .setReg 4 .a
  | .set5B => .setReg 5 .b
  | .set5C => .setReg 5 .c
  | .set5D => .setReg 5 .d
  | .set5E => .setReg 5 .e
  | .set5H => .setReg 5 .h
  | .set5L => .setReg 5 .l
  | .set5AtHl => .setAtHl 5
  | .set5A => .setReg 5 .a
  | .set6B => .setReg 6 .b
  | .set6C => .setReg 6 .c
  | .set6D => .setReg 6 .d
  | .set6E => .setReg 6 .e
  | .set6H => .setReg 6 .h
  | .set6L => .setReg 6 .l
  | .set6AtHl => .setAtHl 6
  | .set6A => .setReg 6 .a
  | .set7B => .setReg 7 .b
  | .set7C => .setReg 7 .c
  | .set7D => .setReg 7 .d
  | .set7E => .setReg 7 .e
  | .set7H => .setReg 7 .h
  | .set7L => .setReg 7 .l
  | .set7AtHl => .setAtHl 7
  | .set7A => .setReg 7 .a
  | .illegal op => .illegal op

theorem formOf_instr (i : Instr) : (formOf i).instr = i := by
  cases i with
  | nop => rfl
  | ldBcNn nn => rfl
  | ldAtBcA => rfl
  | incBc => rfl
  | incB => rfl
  | decB => rfl
  | ldBN n => rfl
  | rlca => rfl
  | ldAtNnSp nn => rfl
  | addHlBc => rfl
  | ldAAtBc => rfl
  | decBc => rfl
  | incC => rfl
  | decC => rfl
  | ldCN n => rfl
  | rrca => rfl
  | stop n => rfl
  | ldDeNn nn => rfl
  | ldAtDeA => rfl
  | incDe => rfl
  | incD => rfl
  | decD => rfl
  | ldDN n => rfl
  | rla => rfl
  | jrE e => rfl
  | addHlDe => rfl
  | ldAAtDe => rfl
  | decDe => rfl
  | incE => rfl
  | decE => rfl
  | ldEN n => rfl
  | rra => rfl
  | jrNzE e => rfl
  | ldHlNn nn => rfl
  | ldAtHlIncA => rfl
  | incHl => rfl
  | incH => rfl
  | decH => rfl
  | ldHN n => rfl
  | daa => rfl
  | jrZE e => rfl
  | addHlHl => rfl
  | ldAAtHlInc => rfl
  | decHl => rfl
  | incL => rfl
  | decL => rfl
  | ldLN n => rfl
  | cpl => rfl
  | jrNcE e => rfl
  | ldSpNn nn => rfl
  | ldAtHlDecA => rfl
  | incSp => rfl
  | incAtHl => rfl
  | decAtHl => rfl
  | ldAtHlN n => rfl
  | scf => rfl
  | jrCE e => rfl
  | addHlSp => rfl
  | ldAAtHlDec => rfl
  | decSp => rfl
  | incA => rfl
  | decA => rfl
  | ldAN n => rfl
  | ccf => rfl
  | ldBB => rfl
  | ldBC => rfl
  | ldBD => rfl
  | ldBE => rfl
  | ldBH => rfl
  | ldBL => rfl
  | ldBAtHl => rfl
  | ldBA => rfl
  | ldCB => rfl
  | ldCC => rfl
  | ldCD => rfl
  | ldCE => rfl
  | ldCH => rfl
  | ldCL => rfl
  | ldCAtHl => rfl
  | ldCA => rfl
  | ldDB => rfl
  | ldDC => rfl
  | ldDD => rfl
  | ldDE => rfl
  | ldDH => rfl
  | ldDL => rfl
  | ldDAtHl => rfl
  | ldDA => rfl
  | ldEB => rfl
  | ldEC => rfl
  | ldED => rfl
  | ldEE => rfl
  | ldEH => rfl
  | ldEL => rfl
  | ldEAtHl => rfl
  | ldEA => rfl
  | ldHB => rfl
  | ldHC => rfl
  | ldHD => rfl
  | ldHE => rfl
  | ldHH => rfl
  | ldHL => rfl
  | ldHAtHl => rfl
  | ldHA => rfl
  | ldLB => rfl
  | ldLC => rfl
  | ldLD => rfl
  | ldLE => rfl
  | ldLH => rfl
  | ldLL => rfl
  | ldLAtHl => rfl
  | ldLA => rfl
  | ldAtHlB => rfl
  | ldAtHlC => rfl
  | ldAtHlD => rfl
  | ldAtHlE => rfl
  | ldAtHlH => rfl
  | ldAtHlL => rfl
  | halt => rfl
  | ldAtHlA => rfl
  | ldAB => rfl
  | ldAC => rfl
  | ldAD => rfl
  | ldAE => rfl
  | ldAH => rfl
  | ldAL => rfl
  | ldAAtHl => rfl
  | ldAA => rfl
  | addAB => rfl
  | addAC => rfl
  | addAD => rfl
  | addAE => rfl
  | addAH => rfl
  | addAL => rfl
  | addAAtHl => rfl
  | addAA => rfl
  | adcAB => rfl
  | adcAC => rfl
  | adcAD => rfl
  | adcAE => rfl
  | adcAH => rfl
  | adcAL => rfl
  | adcAAtHl => rfl
  | adcAA => rfl
  | subB => rfl
  | subC => rfl
  | subD => rfl
  | subE => rfl
  | subH => rfl
  | subL => rfl
  | subAtHl => rfl
  | subA => rfl
  | sbcAB => rfl
  | sbcAC => rfl
  | sbcAD => rfl
  | sbcAE => rfl
  | sbcAH => rfl
  | sbcAL => rfl
  | sbcAAtHl => rfl
  | sbcAA => rfl
  | andB => rfl
  | andC => rfl
  | andD => rfl
  | andE => rfl
  | andH => rfl
  | andL => rfl
  | andAtHl => rfl
  | andA => rfl
  | xorB => rfl
  | xorC => rfl
  | xorD => rfl
  | xorE => rfl
  | xorH => rfl
  | xorL => rfl
  | xorAtHl => rfl
  | xorA => rfl
  | orB => rfl
  | orC => rfl
  | orD => rfl
  | orE => rfl
  | orH => rfl
  | orL => rfl
  | orAtHl => rfl
  | orA => rfl
  | cpB => rfl
  | cpC => rfl
  | cpD => rfl
  | cpE => rfl
  | cpH => rfl
  | cpL => rfl
  | cpAtHl => rfl
  | cpA => rfl
  | retNz => rfl
  | popBc => rfl
  | jpNzNn nn => rfl
  | jpNn nn => rfl
  | callNzNn nn => rfl
  | pushBc => rfl
  | addAN n => rfl
  | rst00 => rfl
  | retZ => rfl
  | ret => rfl
  | jpZNn nn => rfl
  | prefixCb => rfl
  | callZNn nn => rfl
  | callNn nn => rfl
  | adcAN n => rfl
  | rst08 => rfl
  | retNc => rfl
  | popDe => rfl
  | jpNcNn nn => rfl
  | callNcNn nn => rfl
  | pushDe => rfl
  | subN n => rfl
  | rst10 => rfl
  | retC => rfl
  | reti => rfl
  | jpCNn nn => rfl
  | callCNn nn => rfl
  | sbcAN n => rfl
  | rst18 => rfl
  | ldhAtNA n => rfl
  | popHl => rfl
  | ldhAtCA => rfl
  | pushHl => rfl
  | andN n => rfl
  | rst20 => rfl
  | addSpE e => rfl
  | jpHl => rfl
  | ldAtNnA nn => rfl
  | xorN n => rfl
  | rst28 => rfl
  | ldhAAtN n => rfl
  | popAf => rfl
  | ldhAAtC => rfl
  | di => rfl
  | pushAf => rfl
  | orN n => rfl
  | rst30 => rfl
  | ldHlSpE e => rfl
  | ldSpHl => rfl
  | ldAAtNn nn => rfl
  | ei => rfl
  | cpN n => rfl
  | rst38 => rfl
  | rlcB => rfl
  | rlcC => rfl
  | rlcD => rfl
  | rlcE => rfl
  | rlcH => rfl
  | rlcL => rfl
  | rlcAtHl => rfl
  | rlcA => rfl
  | rrcB => rfl
  | rrcC => rfl
  | rrcD => rfl
  | rrcE => rfl
  | rrcH => rfl
  | rrcL => rfl
  | rrcAtHl => rfl
  | rrcA => rfl
  | rlB => rfl
  | rlC => rfl
  | rlD => rfl
  | rlE => rfl
  | rlH => rfl
  | rlL => rfl
  | rlAtHl => rfl
  | rlA => rfl
  | rrB => rfl
  | rrC => rfl
  | rrD => rfl
  | rrE => rfl
  | rrH => rfl
  | rrL => rfl
  | rrAtHl => rfl
  | rrA => rfl
  | slaB => rfl
  | slaC => rfl
  | slaD => rfl
  | slaE => rfl
  | slaH => rfl
  | slaL => rfl
  | slaAtHl => rfl
  | slaA => rfl
  | sraB => rfl
  | sraC => rfl
  | sraD => rfl
  | sraE => rfl
  | sraH => rfl
  | sraL => rfl
  | sraAtHl => rfl
  | sraA => rfl
  | swapB => rfl
  | swapC => rfl
  | swapD => rfl
  | swapE => rfl
  | swapH => rfl
  | swapL => rfl
  | swapAtHl => rfl
  | swapA => rfl
  | srlB => rfl
  | srlC => rfl
  | srlD => rfl
  | srlE => rfl
  | srlH => rfl
  | srlL => rfl
  | srlAtHl => rfl
  | srlA => rfl
  | bit0B => rfl
  | bit0C => rfl
  | bit0D => rfl
  | bit0E => rfl
  | bit0H => rfl
  | bit0L => rfl
  | bit0AtHl => rfl
  | bit0A => rfl
  | bit1B => rfl
  | bit1C => rfl
  | bit1D => rfl
  | bit1E => rfl
  | bit1H => rfl
  | bit1L => rfl
  | bit1AtHl => rfl
  | bit1A => rfl
  | bit2B => rfl
  | bit2C => rfl
  | bit2D => rfl
  | bit2E => rfl
  | bit2H => rfl
  | bit2L => rfl
  | bit2AtHl => rfl
  | bit2A => rfl
  | bit3B => rfl
  | bit3C => rfl
  | bit3D => rfl
  | bit3E => rfl
  | bit3H => rfl
  | bit3L => rfl
  | bit3AtHl => rfl
  | bit3A => rfl
  | bit4B => rfl
  | bit4C => rfl
  | bit4D => rfl
  | bit4E => rfl
  | bit4H => rfl
  | bit4L => rfl
  | bit4AtHl => rfl
  | bit4A => rfl
  | bit5B => rfl
  | bit5C => rfl
  | bit5D => rfl
  | bit5E => rfl
  | bit5H => rfl
  | bit5L => rfl
  | bit5AtHl => rfl
  | bit5A => rfl
  | bit6B => rfl
  | bit6C => rfl
  | bit6D => rfl
  | bit6E => rfl
  | bit6H => rfl
  | bit6L => rfl
  | bit6AtHl => rfl
  | bit6A => rfl
  | bit7B => rfl
  | bit7C => rfl
  | bit7D => rfl
  | bit7E => rfl
  | bit7H => rfl
  | bit7L => rfl
  | bit7AtHl => rfl
  | bit7A => rfl
  | res0B => rfl
  | res0C => rfl
  | res0D => rfl
  | res0E => rfl
  | res0H => rfl
  | res0L => rfl
  | res0AtHl => rfl
  | res0A => rfl
  | res1B => rfl
  | res1C => rfl
  | res1D => rfl
  | res1E => rfl
  | res1H => rfl
  | res1L => rfl
  | res1AtHl => rfl
  | res1A => rfl
  | res2B => rfl
  | res2C => rfl
  | res2D => rfl
  | res2E => rfl
  | res2H => rfl
  | res2L => rfl
  | res2AtHl => rfl
  | res2A => rfl
  | res3B => rfl
  | res3C => rfl
  | res3D => rfl
  | res3E => rfl
  | res3H => rfl
  | res3L => rfl
  | res3AtHl => rfl
  | res3A => rfl
  | res4B => rfl
  | res4C => rfl
  | res4D => rfl
  | res4E => rfl
  | res4H => rfl
  | res4L => rfl
  | res4AtHl => rfl
  | res4A => rfl
  | res5B => rfl
  | res5C => rfl
  | res5D => rfl
  | res5E => rfl
  | res5H => rfl
  | res5L => rfl
  | res5AtHl => rfl
  | res5A => rfl
  | res6B => rfl
  | res6C => rfl
  | res6D => rfl
  | res6E => rfl
  | res6H => rfl
  | res6L => rfl
  | res6AtHl => rfl
  | res6A => rfl
  | res7B => rfl
  | res7C => rfl
  | res7D => rfl
  | res7E => rfl
  | res7H => rfl
  | res7L => rfl
  | res7AtHl => rfl
  | res7A => rfl
  | set0B => rfl
  | set0C => rfl
  | set0D => rfl
  | set0E => rfl
  | set0H => rfl
  | set0L => rfl
  | set0AtHl => rfl
  | set0A => rfl
  | set1B => rfl
  | set1C => rfl
  | set1D => rfl
  | set1E => rfl
  | set1H => rfl
  | set1L => rfl
  | set1AtHl => rfl
  | set1A => rfl
  | set2B => rfl
  | set2C => rfl
  | set2D => rfl
  | set2E => rfl
  | set2H => rfl
  | set2L => rfl
  | set2AtHl => rfl
  | set2A => rfl
  | set3B => rfl
  | set3C => rfl
  | set3D => rfl
  | set3E => rfl
  | set3H => rfl
  | set3L => rfl
  | set3AtHl => rfl
  | set3A => rfl
  | set4B => rfl
  | set4C => rfl
  | set4D => rfl
  | set4E => rfl
  | set4H => rfl
  | set4L => rfl
  | set4AtHl => rfl
  | set4A => rfl
  | set5B => rfl
  | set5C => rfl
  | set5D => rfl
  | set5E => rfl
  | set5H => rfl
  | set5L => rfl
  | set5AtHl => rfl
  | set5A => rfl
  | set6B => rfl
  | set6C => rfl
  | set6D => rfl
  | set6E => rfl
  | set6H => rfl
  | set6L => rfl
  | set6AtHl => rfl
  | set6A => rfl
  | set7B => rfl
  | set7C => rfl
  | set7D => rfl
  | set7E => rfl
  | set7H => rfl
  | set7L => rfl
  | set7AtHl => rfl
  | set7A => rfl
  | illegal op => rfl

/-- Every instruction is the instruction of a form. -/
theorem exists_form (i : Instr) : ∃ f : Form, f.instr = i := ⟨formOf i, formOf_instr i⟩

end Sys2Proof.Machine
end

