-- ==== Sys2Proof/Laws/Memory.lean ====
section
/-! SUPPORT. The laws of the plain store: what a write leaves readable, and that every operation keeps the canonical form. -/

namespace Sys2Proof.Machine

/-- A byte other than the written one reads as before, in any memory. -/
theorem Memory.read_write_other (m : Memory) {a b : Nat} (v : Byte) (h : b ≠ a) :
    Memory.read (Memory.write m a v) b = Memory.read m b := by
  induction m with
  | nil =>
    simp only [Memory.write]
    split <;> simp [Memory.read, Ne.symm h]
  | cons p rest ih =>
    obtain ⟨k, w⟩ := p
    simp only [Memory.write]
    split
    · subst_vars
      split <;> simp [Memory.read, Ne.symm h]
    · split
      · split <;> simp [Memory.read, Ne.symm h]
      · simp [Memory.read, ih]

/-- An address below every entry of a canonical memory reads as unwritten. -/
theorem Memory.read_below {m : Memory} : ∀ {lo a : Nat}, Memory.wfFrom lo m = true → a < lo → Memory.read m a = Memory.unwritten := by
  induction m with
  | nil => intros; rfl
  | cons p rest ih =>
    obtain ⟨k, w⟩ := p
    intro lo a h ha
    simp only [Memory.wfFrom, Bool.and_eq_true, decide_eq_true_eq] at h
    simp only [Memory.read]
    rw [if_neg (by omega), ih h.2 (by omega)]

theorem Memory.read_write_same_from {m : Memory} {a : Nat} {v : Byte} :
    ∀ {lo : Nat}, Memory.wfFrom lo m = true → Memory.read (Memory.write m a v) a = v := by
  induction m with
  | nil =>
    intro lo _
    simp only [Memory.write]
    split <;> simp_all [Memory.read]
  | cons p rest ih =>
    obtain ⟨k, w⟩ := p
    intro lo h
    simp only [Memory.wfFrom, Bool.and_eq_true, decide_eq_true_eq] at h
    simp only [Memory.write]
    split
    · subst_vars
      split
      · rw [Memory.read_below h.2 (by omega)]; simp_all
      · simp [Memory.read]
    · split
      · split
        · rw [Memory.read, if_neg (by omega), Memory.read_below h.2 (by omega)]; simp_all
        · simp [Memory.read]
      · rw [Memory.read, if_neg (by omega)]
        exact ih h.2

/-- The written byte reads back from a canonical memory. -/
theorem Memory.read_write_same {m : Memory} (a : Nat) (v : Byte) (h : Memory.wf m = true) :
    Memory.read (Memory.write m a v) a = v :=
  Memory.read_write_same_from h

theorem Memory.wfFrom_weaken {m : Memory} {lo lo' : Nat} (h : Memory.wfFrom lo m = true) (hl : lo' ≤ lo) :
    Memory.wfFrom lo' m = true := by
  cases m with
  | nil => rfl
  | cons p rest =>
    simp only [Memory.wfFrom, Bool.and_eq_true, decide_eq_true_eq] at h ⊢
    exact ⟨⟨⟨by omega, h.1.1.2⟩, h.1.2⟩, h.2⟩

theorem Memory.wfFrom_write {m : Memory} {a : Nat} {v : Byte} (ha : a < 65536) :
    ∀ {lo : Nat}, lo ≤ a → Memory.wfFrom lo m = true → Memory.wfFrom lo (Memory.write m a v) = true := by
  induction m with
  | nil =>
    intro lo hl _
    simp only [Memory.write]
    split
    · rfl
    · simp_all [Memory.wfFrom]
  | cons p rest ih =>
    obtain ⟨k, w⟩ := p
    intro lo hl h
    have h' := h
    simp only [Memory.wfFrom, Bool.and_eq_true, decide_eq_true_eq] at h
    simp only [Memory.write]
    split
    · subst_vars
      split
      · exact Memory.wfFrom_weaken h.2 (by omega)
      · simp only [Memory.wfFrom, Bool.and_eq_true, decide_eq_true_eq]
        exact ⟨⟨⟨hl, ha⟩, ‹_›⟩, h.2⟩
    · split
      · split
        · exact h'
        · simp only [Memory.wfFrom, Bool.and_eq_true, decide_eq_true_eq]
          exact ⟨⟨⟨hl, ha⟩, ‹_›⟩, ⟨⟨by omega, h.1.1.2⟩, h.1.2⟩, h.2⟩
      · simp only [Memory.wfFrom, Bool.and_eq_true, decide_eq_true_eq]
        exact ⟨⟨⟨h.1.1.1, h.1.1.2⟩, h.1.2⟩, ih (by omega) h.2⟩

/-- A store of a byte at an address keeps the canonical form. -/
theorem Memory.wf_write {m : Memory} (addr : Word) (v : Byte) (h : Memory.wf m = true) :
    Memory.wf (Memory.write m addr.toNat v) = true :=
  Memory.wfFrom_write addr.isLt (Nat.zero_le _) h

/-- A store of several bytes keeps the canonical form. -/
theorem Memory.wf_writeBytes (bytes : List Byte) : ∀ {m : Memory} (addr : Word), Memory.wf m = true →
    Memory.wf (Memory.writeBytes m addr bytes) = true := by
  induction bytes with
  | nil => intro m addr h; exact h
  | cons v rest ih => intro m addr h; exact ih _ (Memory.wf_write addr v h)

/-- The writes of a list of accesses keep the canonical form. -/
theorem Memory.wf_applyAll (accesses : List BusAccess) : ∀ {m : Memory}, Memory.wf m = true →
    Memory.wf (accesses.foldl BusAccess.apply m) = true := by
  induction accesses with
  | nil => intro m h; exact h
  | cons x rest ih =>
    intro m h
    cases x with
    | read addr v => exact ih h
    | write addr v => exact ih (Memory.wf_write addr v h)

/-- The placing of an instruction keeps the canonical form. -/
theorem State.wf_placeInstruction (s : State) (bytes : List Byte) (h : Memory.wf s.mem = true) :
    Memory.wf (s.placeInstruction bytes).mem = true :=
  Memory.wf_writeBytes bytes s.pc h

/-- What the bus answers when no answer is pending is the store's byte. -/
theorem State.busValue_store {s : State} (h : s.busAnswers = []) (addr : Word) :
    s.busValue addr = Memory.read s.mem addr.toNat := by
  simp [State.busValue, h]

/-- What the bus answers when the environment does is its answer. -/
theorem State.busValue_answer {s : State} {v : Byte} {rest : List (Option Byte)} (h : s.busAnswers = some v :: rest) (addr : Word) :
    s.busValue addr = v := by
  simp [State.busValue, h]

end Sys2Proof.Machine
end

