-- ==== Sys2Proof/Laws/Frame.lean ====
section
/-! SUPPORT. How a frame is shown: by what an update did to the store. -/

namespace Sys2Proof.Machine

/-- The frame of an update that stores nothing. -/
theorem Frame.of_mem_eq {s t : State} {written : List Reg8} {accesses : List BusAccess}
    (registers : ∀ r, r ∉ written → t.getReg r = s.getReg r) (mem : t.mem = s.mem)
    (busAccesses : t.busAccesses = s.busAccesses ++ accesses)
    (busAnswers : t.busAnswers = s.busAnswers.drop (accesses.countP BusAccess.isRead)) : Frame s t written [] accesses :=
  ⟨registers, fun addr _ => by rw [mem], fun _ p hp => by simp at hp, busAccesses, busAnswers⟩

/-- The frame of an update that stores one byte. -/
theorem Frame.of_write {s t : State} {written : List Reg8} {accesses : List BusAccess} {addr : Word} {v : Byte}
    (registers : ∀ r, r ∉ written → t.getReg r = s.getReg r) (mem : t.mem = Memory.write s.mem addr.toNat v)
    (busAccesses : t.busAccesses = s.busAccesses ++ accesses)
    (busAnswers : t.busAnswers = s.busAnswers.drop (accesses.countP BusAccess.isRead)) :
    Frame s t written [(addr, v)] accesses := by
  refine ⟨registers, fun b hb => ?_, fun hw p hp => ?_, busAccesses, busAnswers⟩
  · rw [mem, Memory.read_write_other]
    simpa [← BitVec.toNat_inj] using hb
  · obtain rfl : p = (addr, v) := by simpa using hp
    rw [mem, Memory.read_write_same _ _ hw]

/-- The frame of an update that stores two bytes at different addresses. -/
theorem Frame.of_write_write {s t : State} {written : List Reg8} {accesses : List BusAccess} {addr addr' : Word} {v v' : Byte}
    (hne : addr ≠ addr') (registers : ∀ r, r ∉ written → t.getReg r = s.getReg r)
    (mem : t.mem = Memory.write (Memory.write s.mem addr.toNat v) addr'.toNat v')
    (busAccesses : t.busAccesses = s.busAccesses ++ accesses)
    (busAnswers : t.busAnswers = s.busAnswers.drop (accesses.countP BusAccess.isRead)) :
    Frame s t written [(addr, v), (addr', v')] accesses := by
  refine ⟨registers, fun b hb => ?_, fun hw p hp => ?_, busAccesses, busAnswers⟩
  · have hb' : b ≠ addr ∧ b ≠ addr' := by simpa using hb
    rw [mem, Memory.read_write_other, Memory.read_write_other]
    · simpa [BitVec.toNat_inj] using hb'.1
    · simpa [BitVec.toNat_inj] using hb'.2
  · have hp' : p = (addr, v) ∨ p = (addr', v') := by simpa using hp
    rcases hp' with rfl | rfl
    · rw [mem, Memory.read_write_other, Memory.read_write_same _ _ hw]
      simpa [BitVec.toNat_inj] using hne
    · rw [mem, Memory.read_write_same _ _ (Memory.wf_write _ _ hw)]

/-- A pair of neighbouring addresses is two addresses. -/
theorem succ_ne (w : Word) : w ≠ w + 1 := by
  intro h
  have := congrArg BitVec.toNat h
  rw [BitVec.toNat_add, show (1 : Word).toNat = 1 from rfl] at this
  have := w.isLt
  omega

theorem pred_ne (w : Word) : w - 1 ≠ w - 1 - 1 := fun h =>
  succ_ne (w - 1 - 1) (by rw [BitVec.sub_add_cancel]; exact h.symm)

theorem sub_one_sub_one (w : Word) : w - 1 - 1 = w - 2 := by rw [BitVec.sub_sub]; rfl

theorem add_one_add_one (w : Word) : w + 1 + 1 = w + 2 := by rw [BitVec.add_assoc]; rfl

end Sys2Proof.Machine
end

