-- ==== Sys2Proof/Laws/Step.lean ====
section
/-! SUPPORT. What each part of a Step can do: the bus reads of its fetch, the sampling and the taking of interrupts, the arm a
run state selects. -/

namespace Sys2Proof.Machine

/-! ### The arm -/

theorem step_faulted {s : State} {addr : Word} (h : s.fault = some addr) : step s = .fault (.illegalOpcode addr) := by
  simp [step, h]

theorem step_running {s : State} (hf : s.fault = none) (hr : s.runState = .running) :
    step s = afterInstruction (instructionPhase s.beginStep) := by
  simp [step, hf, hr]

theorem step_halted {s : State} (hf : s.fault = none) (hr : s.runState = .halted) :
    step s = .next (s.beginStep.haltedArm.1.endStep (some s.beginStep.haltedArm.2)) := by
  simp [step, hf, hr]

theorem step_stopped {s : State} (hf : s.fault = none) (hr : s.runState = .stopped) :
    step s = .next ((s.beginStep.stoppedArm s.wakeInput).endStep none) := by
  simp [step, hf, hr]

/-- A Step answers a next state only without a latched fault and from a run state other than `interruptDispatch`. -/
theorem step_next_cases {s t : State} (h : step s = .next t) :
    s.fault = none ∧
    ((s.runState = .running ∧ afterInstruction (instructionPhase s.beginStep) = .next t) ∨
      (s.runState = .halted ∧ t = s.beginStep.haltedArm.1.endStep (some s.beginStep.haltedArm.2)) ∨
      (s.runState = .stopped ∧ t = (s.beginStep.stoppedArm s.wakeInput).endStep none)) := by
  cases hf : s.fault with
  | some addr => rw [step_faulted hf] at h; cases h
  | none =>
    refine ⟨rfl, ?_⟩
    cases hr : s.runState with
    | running => rw [step_running hf hr] at h; exact .inl ⟨rfl, h⟩
    | halted => rw [step_halted hf hr] at h; cases h; exact .inr (.inl ⟨rfl, rfl⟩)
    | stopped => rw [step_stopped hf hr] at h; cases h; exact .inr (.inr ⟨rfl, rfl⟩)
    | interruptDispatch => simp [step, hf, hr] at h

/-! ### The fetch -/

theorem tail_tail (xs : List (Option Byte)) : xs.tail.tail = xs.drop 2 := by
  rcases xs with _ | ⟨_, _ | ⟨_, _⟩⟩ <;> rfl


theorem fetchOpcode_eq (s : State) :
    s.fetchOpcode =
      (s.busValue s.pc, ((s.busRead s.pc).setPc (if s.haltBug then s.pc else s.pc + 1)).setHaltBug false) := by
  unfold State.fetchOpcode
  cases h : s.haltBug
  · simp [State.setPc, State.setHaltBug, State.busRead, h]
  · simp [State.setPc, State.busRead, State.setHaltBug]

theorem fetch8_eq (s : State) : s.fetch8 = (s.busValue s.pc, (s.busRead s.pc).setPc (s.pc + 1)) := rfl

theorem fetch16_eq (s : State) :
    s.fetch16 = (ofBytes ((s.busRead s.pc).busValue (s.pc + 1)) (s.busValue s.pc),
      (((s.busRead s.pc).setPc (s.pc + 1)).busRead (s.pc + 1)).setPc (s.pc + 1 + 1)) := rfl

/-- What the bus answers depends on the store and the pending answers only. -/
theorem busValue_congr {s t : State} (hm : t.mem = s.mem) (ha : t.busAnswers = s.busAnswers) (addr : Word) :
    t.busValue addr = s.busValue addr := by
  simp [State.busValue, hm, ha]

/-! ### Interrupts -/

/-- The spec's complement of one byte (00_scope.md R10) is an exclusive or with ones. -/
theorem complement_eq_xor (v : Byte) : ~~~ v = 0xFF ^^^ v := by
  revert v; decide

theorem highestPriority_of_least {p : Byte} {k : IntSource} (h : LeastSetBit p k.bit) : highestPriority p = some k := by
  obtain ⟨h1, h2⟩ := h
  unfold highestPriority
  cases k <;> simp only [IntSource.bit] at h1 h2
  · simp only [h1, if_true]
  · simp only [h2 0 (by decide), h1, Bool.false_eq_true, if_false, if_true]
  · simp only [h2 0 (by decide), h2 1 (by decide), h1, Bool.false_eq_true, if_false, if_true]
  · simp only [h2 0 (by decide), h2 1 (by decide), h2 2 (by decide), h1, Bool.false_eq_true, if_false, if_true]
  · simp only [h2 0 (by decide), h2 1 (by decide), h2 2 (by decide), h2 3 (by decide), h1, Bool.false_eq_true, if_false,
      if_true]

theorem highestPriority_zero : highestPriority 0 = none := rfl

/-- A request that is enabled and pending is one of the five. -/
theorem highestPriority_isSome (ie ifl : Byte) :
    (highestPriority (pendingEnabled ie ifl)).isSome = decide (pendingEnabled ie ifl ≠ 0) := by
  have key : ∀ p : Byte, (highestPriority (p &&& 0x1F)).isSome = decide (p &&& 0x1F ≠ 0) := by decide
  exact key (ie &&& ifl)

theorem dispatchPending_none {s : State} {ie ifl : Byte} (h : ie &&& ifl &&& 0x1F = 0) : s.dispatchPending ie ifl = s := by
  unfold State.dispatchPending pendingEnabled
  rw [h, highestPriority_zero]

theorem dispatchPending_some {s : State} {ie ifl : Byte} {k : IntSource} (h : LeastSetBit (ie &&& ifl &&& 0x1F) k.bit) :
    s.dispatchPending ie ifl = (s.dispatch k ifl).setCycles (s.stepCycles + s.config.intDispatchCycles) := by
  unfold State.dispatchPending pendingEnabled
  rw [highestPriority_of_least h]

theorem interruptPhase_off {s : State} (h : s.runState = .stopped ∨ s.ime = false) (sampled : Option (Byte × Byte)) :
    s.interruptPhase sampled = s := by
  rcases h with h | h <;> simp [State.interruptPhase, h]

theorem interruptPhase_sampled {s : State} (hr : s.runState ≠ .stopped) (hi : s.ime = true) (ie ifl : Byte) :
    s.interruptPhase (some (ie, ifl)) = s.dispatchPending ie ifl := by
  simp [State.interruptPhase, hr, hi]

theorem interruptPhase_sample {s : State} (hr : s.runState ≠ .stopped) (hi : s.ime = true) :
    s.interruptPhase none =
      ((s.busRead ieAddr).busRead ifAddr).dispatchPending (s.busValue ieAddr) ((s.busRead ieAddr).busValue ifAddr) := by
  simp [State.interruptPhase, hr, hi, State.sampleInterrupts]

/-- The interrupt phase can do three things: nothing, a sample, a dispatch after the sample. -/
theorem interruptPhase_cases (s : State) (sampled : Option (Byte × Byte)) :
    ((s.runState = .stopped ∨ s.ime = false) ∧ s.interruptPhase sampled = s) ∨
    (s.runState ≠ .stopped ∧ s.ime = true ∧
      ∃ (ie ifl : Byte) (u : State),
        ((sampled = some (ie, ifl) ∧ u = s) ∨
          (sampled = none ∧ ie = s.busValue ieAddr ∧ ifl = (s.busRead ieAddr).busValue ifAddr
            ∧ u = (s.busRead ieAddr).busRead ifAddr)) ∧
        ((highestPriority (pendingEnabled ie ifl) = none ∧ s.interruptPhase sampled = u) ∨
          ∃ k, highestPriority (pendingEnabled ie ifl) = some k ∧
            s.interruptPhase sampled = (u.dispatch k ifl).setCycles (u.stepCycles + u.config.intDispatchCycles))) := by
  have hd : ∀ (u : State) (ie ifl : Byte),
      (highestPriority (pendingEnabled ie ifl) = none ∧ u.dispatchPending ie ifl = u) ∨
        ∃ k, highestPriority (pendingEnabled ie ifl) = some k ∧
          u.dispatchPending ie ifl = (u.dispatch k ifl).setCycles (u.stepCycles + u.config.intDispatchCycles) := by
    intro u ie ifl
    unfold State.dispatchPending
    cases h : highestPriority (pendingEnabled ie ifl) with
    | none => exact .inl ⟨rfl, rfl⟩
    | some k => exact .inr ⟨k, rfl, rfl⟩
  by_cases hr : s.runState = .stopped
  · exact .inl ⟨.inl hr, interruptPhase_off (.inl hr) _⟩
  · cases hi : s.ime with
    | false => exact .inl ⟨.inr rfl, interruptPhase_off (.inr hi) _⟩
    | true =>
      refine .inr ⟨hr, rfl, ?_⟩
      cases sampled with
      | some x =>
        refine ⟨x.1, x.2, s, .inl ⟨rfl, rfl⟩, ?_⟩
        rw [show some x = some (x.1, x.2) from rfl, interruptPhase_sampled hr hi]
        exact hd s x.1 x.2
      | none =>
        refine ⟨_, _, _, .inr ⟨rfl, rfl, rfl, rfl⟩, ?_⟩
        rw [interruptPhase_sample hr hi]
        exact hd _ _ _

/-! ### The dispatch, field by field -/

variable (s : State)

@[simp] theorem State.dispatch_a (k : IntSource) (ifl : Byte) : (s.dispatch k ifl).a = s.a := by simp [State.dispatch]
@[simp] theorem State.dispatch_f (k : IntSource) (ifl : Byte) : (s.dispatch k ifl).f = s.f := by simp [State.dispatch]
@[simp] theorem State.dispatch_b (k : IntSource) (ifl : Byte) : (s.dispatch k ifl).b = s.b := by simp [State.dispatch]
@[simp] theorem State.dispatch_c (k : IntSource) (ifl : Byte) : (s.dispatch k ifl).c = s.c := by simp [State.dispatch]
@[simp] theorem State.dispatch_d (k : IntSource) (ifl : Byte) : (s.dispatch k ifl).d = s.d := by simp [State.dispatch]
@[simp] theorem State.dispatch_e (k : IntSource) (ifl : Byte) : (s.dispatch k ifl).e = s.e := by simp [State.dispatch]
@[simp] theorem State.dispatch_h (k : IntSource) (ifl : Byte) : (s.dispatch k ifl).h = s.h := by simp [State.dispatch]
@[simp] theorem State.dispatch_l (k : IntSource) (ifl : Byte) : (s.dispatch k ifl).l = s.l := by simp [State.dispatch]
@[simp] theorem State.dispatch_sp (k : IntSource) (ifl : Byte) : (s.dispatch k ifl).sp = s.sp - 1 - 1 := by simp [State.dispatch]
@[simp] theorem State.dispatch_pc (k : IntSource) (ifl : Byte) : (s.dispatch k ifl).pc = k.vector := by simp [State.dispatch]
@[simp] theorem State.dispatch_ime (k : IntSource) (ifl : Byte) : (s.dispatch k ifl).ime = false := by simp [State.dispatch]
@[simp] theorem State.dispatch_imeSched (k : IntSource) (ifl : Byte) : (s.dispatch k ifl).imeSched = false := by simp [State.dispatch]
@[simp] theorem State.dispatch_haltBug (k : IntSource) (ifl : Byte) : (s.dispatch k ifl).haltBug = s.haltBug := by simp [State.dispatch]
@[simp] theorem State.dispatch_runState (k : IntSource) (ifl : Byte) : (s.dispatch k ifl).runState = .running := by simp [State.dispatch]
@[simp] theorem State.dispatch_cycleCount (k : IntSource) (ifl : Byte) : (s.dispatch k ifl).cycleCount = s.cycleCount := by simp [State.dispatch]
@[simp] theorem State.dispatch_fault (k : IntSource) (ifl : Byte) : (s.dispatch k ifl).fault = s.fault := by simp [State.dispatch]
@[simp] theorem State.dispatch_stepCycles (k : IntSource) (ifl : Byte) : (s.dispatch k ifl).stepCycles = s.stepCycles := by simp [State.dispatch]
theorem State.dispatch_busAccesses (k : IntSource) (ifl : Byte) :
    (s.dispatch k ifl).busAccesses = s.busAccesses ++ s.dispatchAccesses k ifl := by
  simp only [State.dispatch, State.dispatchAccesses, complement_eq_xor, State.setRunState_busAccesses,
    State.setPc_busAccesses, State.push16_busAccesses, State.disableInterrupts_busAccesses, State.busWrite_busAccesses,
    State.disableInterrupts_sp, State.busWrite_sp, sub_one_sub_one, List.append_assoc, List.cons_append, List.nil_append]

theorem State.dispatch_mem (k : IntSource) (ifl : Byte) :
    (s.dispatch k ifl).mem = (s.dispatchAccesses k ifl).foldl BusAccess.apply s.mem := by
  simp only [State.dispatch, State.dispatchAccesses, complement_eq_xor, State.setRunState_mem, State.setPc_mem,
    State.push16_mem, State.disableInterrupts_mem, State.busWrite_mem, State.disableInterrupts_sp, State.busWrite_sp,
    sub_one_sub_one, BusAccess.apply, List.foldl_cons, List.foldl_nil]

@[simp] theorem State.dispatch_busAnswers (k : IntSource) (ifl : Byte) : (s.dispatch k ifl).busAnswers = s.busAnswers := by simp [State.dispatch]
@[simp] theorem State.dispatch_stopWake (k : IntSource) (ifl : Byte) : (s.dispatch k ifl).stopWake = s.stopWake := by simp [State.dispatch]
@[simp] theorem State.dispatch_config (k : IntSource) (ifl : Byte) : (s.dispatch k ifl).config = s.config := by simp [State.dispatch]

@[simp] theorem State.getReg_dispatch (k : IntSource) (ifl : Byte) (x : Reg8) :
    (s.dispatch k ifl).getReg x = s.getReg x := by simp [State.dispatch]

/-! ### The beginning of a Step and the promotion of the `EI` latch, field by field -/

@[simp] theorem State.beginStep_a : s.beginStep.a = s.a := rfl
@[simp] theorem State.beginStep_f : s.beginStep.f = s.f := rfl
@[simp] theorem State.beginStep_b : s.beginStep.b = s.b := rfl
@[simp] theorem State.beginStep_c : s.beginStep.c = s.c := rfl
@[simp] theorem State.beginStep_d : s.beginStep.d = s.d := rfl
@[simp] theorem State.beginStep_e : s.beginStep.e = s.e := rfl
@[simp] theorem State.beginStep_h : s.beginStep.h = s.h := rfl
@[simp] theorem State.beginStep_l : s.beginStep.l = s.l := rfl
@[simp] theorem State.beginStep_sp : s.beginStep.sp = s.sp := rfl
@[simp] theorem State.beginStep_pc : s.beginStep.pc = s.pc := rfl
@[simp] theorem State.beginStep_ime : s.beginStep.ime = s.ime := rfl
@[simp] theorem State.beginStep_imeSched : s.beginStep.imeSched = s.imeSched := rfl
@[simp] theorem State.beginStep_haltBug : s.beginStep.haltBug = s.haltBug := rfl
@[simp] theorem State.beginStep_runState : s.beginStep.runState = s.runState := rfl
@[simp] theorem State.beginStep_cycleCount : s.beginStep.cycleCount = s.cycleCount := rfl
@[simp] theorem State.beginStep_fault : s.beginStep.fault = s.fault := rfl
@[simp] theorem State.beginStep_stepCycles : s.beginStep.stepCycles = 0 := rfl
@[simp] theorem State.beginStep_busAccesses : s.beginStep.busAccesses = [] := rfl
@[simp] theorem State.beginStep_mem : s.beginStep.mem = s.mem := rfl
@[simp] theorem State.beginStep_busAnswers : s.beginStep.busAnswers = s.busAnswers := rfl
@[simp] theorem State.beginStep_stopWake : s.beginStep.stopWake = s.stopWake.tail := rfl
@[simp] theorem State.beginStep_config : s.beginStep.config = s.config := rfl
@[simp] theorem State.getReg_beginStep (x : Reg8) : s.beginStep.getReg x = s.getReg x := by cases x <;> rfl

@[simp] theorem State.promote_a : s.promote.a = s.a := by unfold State.promote; split <;> rfl
@[simp] theorem State.promote_f : s.promote.f = s.f := by unfold State.promote; split <;> rfl
@[simp] theorem State.promote_b : s.promote.b = s.b := by unfold State.promote; split <;> rfl
@[simp] theorem State.promote_c : s.promote.c = s.c := by unfold State.promote; split <;> rfl
@[simp] theorem State.promote_d : s.promote.d = s.d := by unfold State.promote; split <;> rfl
@[simp] theorem State.promote_e : s.promote.e = s.e := by unfold State.promote; split <;> rfl
@[simp] theorem State.promote_h : s.promote.h = s.h := by unfold State.promote; split <;> rfl
@[simp] theorem State.promote_l : s.promote.l = s.l := by unfold State.promote; split <;> rfl
@[simp] theorem State.promote_sp : s.promote.sp = s.sp := by unfold State.promote; split <;> rfl
@[simp] theorem State.promote_pc : s.promote.pc = s.pc := by unfold State.promote; split <;> rfl
@[simp] theorem State.promote_haltBug : s.promote.haltBug = s.haltBug := by unfold State.promote; split <;> rfl
@[simp] theorem State.promote_runState : s.promote.runState = s.runState := by unfold State.promote; split <;> rfl
@[simp] theorem State.promote_cycleCount : s.promote.cycleCount = s.cycleCount := by unfold State.promote; split <;> rfl
@[simp] theorem State.promote_fault : s.promote.fault = s.fault := by unfold State.promote; split <;> rfl
@[simp] theorem State.promote_stepCycles : s.promote.stepCycles = s.stepCycles := by unfold State.promote; split <;> rfl
@[simp] theorem State.promote_busAccesses : s.promote.busAccesses = s.busAccesses := by unfold State.promote; split <;> rfl
@[simp] theorem State.promote_mem : s.promote.mem = s.mem := by unfold State.promote; split <;> rfl
@[simp] theorem State.promote_busAnswers : s.promote.busAnswers = s.busAnswers := by unfold State.promote; split <;> rfl
@[simp] theorem State.promote_stopWake : s.promote.stopWake = s.stopWake := by unfold State.promote; split <;> rfl
@[simp] theorem State.promote_config : s.promote.config = s.config := by unfold State.promote; split <;> rfl
@[simp] theorem State.promote_ime : s.promote.ime = (s.ime || s.imeSched) := by
  unfold State.promote; cases h : s.imeSched <;> simp
@[simp] theorem State.promote_imeSched : s.promote.imeSched = false := by
  unfold State.promote; cases h : s.imeSched <;> simp [h]
@[simp] theorem State.getReg_promote (x : Reg8) : s.promote.getReg x = s.getReg x := by cases x <;> simp [State.getReg]

/-! ### The fetch of an instruction, field by field -/

theorem State.promote_eq : s.promote = { s with ime := s.ime || s.imeSched, imeSched := false } := by
  unfold State.promote
  cases h : s.imeSched <;> cases hi : s.ime <;> simp <;> apply State.ext <;> simp [h, hi]

/-- What holds before the fetch and survives the fetch of a byte as opcode or as operand holds after it. -/
theorem State.fetchInstr_induct {P : State → Prop} (opcode : P s → P s.fetchOpcode.2) (operand : ∀ t, P t → P t.fetch8.2)
    (h : P s) : P s.fetchInstr.2 := by
  have h1 := opcode h
  have h2 := operand _ h1
  unfold State.fetchInstr
  dsimp only
  split
  · exact h2
  · split
    · exact h1
    · exact h2
    · exact operand _ h2

@[simp] theorem State.fetchInstr_a : s.fetchInstr.2.a = s.a :=
  s.fetchInstr_induct (P := fun t => t.a = s.a) (fun h => by simp [fetchOpcode_eq]) (fun t h => by simp [fetch8_eq, h]) rfl
@[simp] theorem State.fetchInstr_f : s.fetchInstr.2.f = s.f :=
  s.fetchInstr_induct (P := fun t => t.f = s.f) (fun h => by simp [fetchOpcode_eq]) (fun t h => by simp [fetch8_eq, h]) rfl
@[simp] theorem State.fetchInstr_b : s.fetchInstr.2.b = s.b :=
  s.fetchInstr_induct (P := fun t => t.b = s.b) (fun h => by simp [fetchOpcode_eq]) (fun t h => by simp [fetch8_eq, h]) rfl
@[simp] theorem State.fetchInstr_c : s.fetchInstr.2.c = s.c :=
  s.fetchInstr_induct (P := fun t => t.c = s.c) (fun h => by simp [fetchOpcode_eq]) (fun t h => by simp [fetch8_eq, h]) rfl
@[simp] theorem State.fetchInstr_d : s.fetchInstr.2.d = s.d :=
  s.fetchInstr_induct (P := fun t => t.d = s.d) (fun h => by simp [fetchOpcode_eq]) (fun t h => by simp [fetch8_eq, h]) rfl
@[simp] theorem State.fetchInstr_e : s.fetchInstr.2.e = s.e :=
  s.fetchInstr_induct (P := fun t => t.e = s.e) (fun h => by simp [fetchOpcode_eq]) (fun t h => by simp [fetch8_eq, h]) rfl
@[simp] theorem State.fetchInstr_h : s.fetchInstr.2.h = s.h :=
  s.fetchInstr_induct (P := fun t => t.h = s.h) (fun h => by simp [fetchOpcode_eq]) (fun t h => by simp [fetch8_eq, h]) rfl
@[simp] theorem State.fetchInstr_l : s.fetchInstr.2.l = s.l :=
  s.fetchInstr_induct (P := fun t => t.l = s.l) (fun h => by simp [fetchOpcode_eq]) (fun t h => by simp [fetch8_eq, h]) rfl
@[simp] theorem State.fetchInstr_sp : s.fetchInstr.2.sp = s.sp :=
  s.fetchInstr_induct (P := fun t => t.sp = s.sp) (fun h => by simp [fetchOpcode_eq]) (fun t h => by simp [fetch8_eq, h]) rfl
@[simp] theorem State.fetchInstr_ime : s.fetchInstr.2.ime = s.ime :=
  s.fetchInstr_induct (P := fun t => t.ime = s.ime) (fun h => by simp [fetchOpcode_eq]) (fun t h => by simp [fetch8_eq, h]) rfl
@[simp] theorem State.fetchInstr_imeSched : s.fetchInstr.2.imeSched = s.imeSched :=
  s.fetchInstr_induct (P := fun t => t.imeSched = s.imeSched) (fun h => by simp [fetchOpcode_eq]) (fun t h => by simp [fetch8_eq, h]) rfl
@[simp] theorem State.fetchInstr_runState : s.fetchInstr.2.runState = s.runState :=
  s.fetchInstr_induct (P := fun t => t.runState = s.runState) (fun h => by simp [fetchOpcode_eq]) (fun t h => by simp [fetch8_eq, h]) rfl
@[simp] theorem State.fetchInstr_cycleCount : s.fetchInstr.2.cycleCount = s.cycleCount :=
  s.fetchInstr_induct (P := fun t => t.cycleCount = s.cycleCount) (fun h => by simp [fetchOpcode_eq]) (fun t h => by simp [fetch8_eq, h]) rfl
@[simp] theorem State.fetchInstr_fault : s.fetchInstr.2.fault = s.fault :=
  s.fetchInstr_induct (P := fun t => t.fault = s.fault) (fun h => by simp [fetchOpcode_eq]) (fun t h => by simp [fetch8_eq, h]) rfl
@[simp] theorem State.fetchInstr_stepCycles : s.fetchInstr.2.stepCycles = s.stepCycles :=
  s.fetchInstr_induct (P := fun t => t.stepCycles = s.stepCycles) (fun h => by simp [fetchOpcode_eq]) (fun t h => by simp [fetch8_eq, h]) rfl
@[simp] theorem State.fetchInstr_mem : s.fetchInstr.2.mem = s.mem :=
  s.fetchInstr_induct (P := fun t => t.mem = s.mem) (fun h => by simp [fetchOpcode_eq]) (fun t h => by simp [fetch8_eq, h]) rfl
@[simp] theorem State.fetchInstr_stopWake : s.fetchInstr.2.stopWake = s.stopWake :=
  s.fetchInstr_induct (P := fun t => t.stopWake = s.stopWake) (fun h => by simp [fetchOpcode_eq]) (fun t h => by simp [fetch8_eq, h]) rfl
@[simp] theorem State.fetchInstr_config : s.fetchInstr.2.config = s.config :=
  s.fetchInstr_induct (P := fun t => t.config = s.config) (fun h => by simp [fetchOpcode_eq]) (fun t h => by simp [fetch8_eq, h]) rfl
@[simp] theorem State.fetchInstr_haltBug : s.fetchInstr.2.haltBug = false := by
  have h : s.fetchOpcode.2.haltBug = false := by simp [fetchOpcode_eq]
  unfold State.fetchInstr
  dsimp only
  split
  · simp [fetch8_eq, h]
  · split <;> simp [fetch8_eq, fetch16_eq, h]
@[simp] theorem State.getReg_fetchInstr (x : Reg8) : s.fetchInstr.2.getReg x = s.getReg x := by cases x <;> simp [State.getReg]

/-! ### The cycle counter, field by field -/

@[simp] theorem State.countCycles_a : s.countCycles.a = s.a := rfl
@[simp] theorem State.countCycles_f : s.countCycles.f = s.f := rfl
@[simp] theorem State.countCycles_b : s.countCycles.b = s.b := rfl
@[simp] theorem State.countCycles_c : s.countCycles.c = s.c := rfl
@[simp] theorem State.countCycles_d : s.countCycles.d = s.d := rfl
@[simp] theorem State.countCycles_e : s.countCycles.e = s.e := rfl
@[simp] theorem State.countCycles_h : s.countCycles.h = s.h := rfl
@[simp] theorem State.countCycles_l : s.countCycles.l = s.l := rfl
@[simp] theorem State.countCycles_sp : s.countCycles.sp = s.sp := rfl
@[simp] theorem State.countCycles_pc : s.countCycles.pc = s.pc := rfl
@[simp] theorem State.countCycles_ime : s.countCycles.ime = s.ime := rfl
@[simp] theorem State.countCycles_imeSched : s.countCycles.imeSched = s.imeSched := rfl
@[simp] theorem State.countCycles_haltBug : s.countCycles.haltBug = s.haltBug := rfl
@[simp] theorem State.countCycles_runState : s.countCycles.runState = s.runState := rfl
@[simp] theorem State.countCycles_cycleCount : s.countCycles.cycleCount = s.cycleCount + s.stepCycles := rfl
@[simp] theorem State.countCycles_fault : s.countCycles.fault = s.fault := rfl
@[simp] theorem State.countCycles_stepCycles : s.countCycles.stepCycles = s.stepCycles := rfl
@[simp] theorem State.countCycles_busAccesses : s.countCycles.busAccesses = s.busAccesses := rfl
@[simp] theorem State.countCycles_mem : s.countCycles.mem = s.mem := rfl
@[simp] theorem State.countCycles_busAnswers : s.countCycles.busAnswers = s.busAnswers := rfl
@[simp] theorem State.countCycles_stopWake : s.countCycles.stopWake = s.stopWake := rfl
@[simp] theorem State.countCycles_config : s.countCycles.config = s.config := rfl
@[simp] theorem State.getReg_countCycles (x : Reg8) : s.countCycles.getReg x = s.getReg x := by cases x <;> rfl

end Sys2Proof.Machine
end

