-- ==== Sys2Proof/Tests/Slice0.lean ====
section
/-! SUPPORT. Tests: the check of well-formedness, the decoding of every word of the opcode table, one Step on vectors of
95_test_vectors.md, the host's interface, and a witness for the hypotheses of every statement that has some. -/

open Sys2Proof Sys2Proof.Machine

namespace Sys2Proof.Tests

/-! ### Helpers -/

/-- The start state of 95_test_vectors.md section 0. -/
def bench : State := { State.reset with a := 0, f := 0, b := 0, c := 0, d := 0, e := 0, h := 0, l := 0 }

/-- The state with bytes in the store. -/
def withCells (s : State) (cells : List (Nat × Byte)) : State :=
  { s with mem := cells.foldl (fun m p => Memory.write m p.1 p.2) s.mem }

/-- What a view shows after one Step. -/
def stepTo {α : Type} (s : State) (view : State → α) : Option α :=
  match step s with
  | .next t => some (view t)
  | .fault _ => none
  | .refused _ => none

/-- The outcome is a next state. -/
def isNext (r : Host.Outcome State Fault Refusal) : Bool :=
  match r with
  | .next _ => true
  | .fault _ => false
  | .refused _ => false

theorem exists_of_isNext {r : Host.Outcome State Fault Refusal} (h : isNext r = true) : ∃ t, r = .next t := by
  cases r with
  | next t => exact ⟨t, rfl⟩
  | fault f => cases h
  | refused x => cases h

/-! ### Well-formedness (the one check, 30_encoding.md R99) -/

theorem test_wellFormed_refuses_a_defined_opcode : (Instr.illegal 0x00).wellFormed = false := by decide

theorem test_wellFormed_refuses_the_prefix : (Instr.illegal 0xCB).wellFormed = false := by decide

theorem test_wellFormed_accepts_the_illegal_bytes : ∀ op ∈ illegalBytes, (Instr.illegal op).wellFormed = true := by decide

/-! ### Decoding: every word of opcode_table.json, with `0x34` and `0x1234` in the immediates -/

theorem test_decode_0x :
    [[0x00], [0x01, 0x34, 0x12], [0x02], [0x03], [0x04], [0x05], [0x06, 0x34], [0x07], [0x08, 0x34, 0x12], [0x09],
      [0x0A], [0x0B], [0x0C], [0x0D], [0x0E, 0x34], [0x0F]].map decode =
      [.ok .nop [], .ok (.ldBcNn 0x1234) [], .ok .ldAtBcA [], .ok .incBc [], .ok .incB [], .ok .decB [], .ok (.ldBN
       0x34) [], .ok .rlca [], .ok (.ldAtNnSp 0x1234) [], .ok .addHlBc [], .ok .ldAAtBc [], .ok .decBc [], .ok .incC
       [], .ok .decC [], .ok (.ldCN 0x34) [], .ok .rrca []] := by decide

theorem test_decode_1x :
    [[0x10, 0x34], [0x11, 0x34, 0x12], [0x12], [0x13], [0x14], [0x15], [0x16, 0x34], [0x17], [0x18, 0x34], [0x19],
      [0x1A], [0x1B], [0x1C], [0x1D], [0x1E, 0x34], [0x1F]].map decode =
      [.ok (.stop 0x34) [], .ok (.ldDeNn 0x1234) [], .ok .ldAtDeA [], .ok .incDe [], .ok .incD [], .ok .decD [], .ok
       (.ldDN 0x34) [], .ok .rla [], .ok (.jrE 0x34) [], .ok .addHlDe [], .ok .ldAAtDe [], .ok .decDe [], .ok .incE
       [], .ok .decE [], .ok (.ldEN 0x34) [], .ok .rra []] := by decide

theorem test_decode_2x :
    [[0x20, 0x34], [0x21, 0x34, 0x12], [0x22], [0x23], [0x24], [0x25], [0x26, 0x34], [0x27], [0x28, 0x34], [0x29],
      [0x2A], [0x2B], [0x2C], [0x2D], [0x2E, 0x34], [0x2F]].map decode =
      [.ok (.jrNzE 0x34) [], .ok (.ldHlNn 0x1234) [], .ok .ldAtHlIncA [], .ok .incHl [], .ok .incH [], .ok .decH [],
       .ok (.ldHN 0x34) [], .ok .daa [], .ok (.jrZE 0x34) [], .ok .addHlHl [], .ok .ldAAtHlInc [], .ok .decHl [], .ok
       .incL [], .ok .decL [], .ok (.ldLN 0x34) [], .ok .cpl []] := by decide

theorem test_decode_3x :
    [[0x30, 0x34], [0x31, 0x34, 0x12], [0x32], [0x33], [0x34], [0x35], [0x36, 0x34], [0x37], [0x38, 0x34], [0x39],
      [0x3A], [0x3B], [0x3C], [0x3D], [0x3E, 0x34], [0x3F]].map decode =
      [.ok (.jrNcE 0x34) [], .ok (.ldSpNn 0x1234) [], .ok .ldAtHlDecA [], .ok .incSp [], .ok .incAtHl [], .ok
       .decAtHl [], .ok (.ldAtHlN 0x34) [], .ok .scf [], .ok (.jrCE 0x34) [], .ok .addHlSp [], .ok .ldAAtHlDec [],
       .ok .decSp [], .ok .incA [], .ok .decA [], .ok (.ldAN 0x34) [], .ok .ccf []] := by decide

theorem test_decode_4x :
    [[0x40], [0x41], [0x42], [0x43], [0x44], [0x45], [0x46], [0x47], [0x48], [0x49], [0x4A], [0x4B], [0x4C],
      [0x4D], [0x4E], [0x4F]].map decode =
      [.ok .ldBB [], .ok .ldBC [], .ok .ldBD [], .ok .ldBE [], .ok .ldBH [], .ok .ldBL [], .ok .ldBAtHl [], .ok .ldBA
       [], .ok .ldCB [], .ok .ldCC [], .ok .ldCD [], .ok .ldCE [], .ok .ldCH [], .ok .ldCL [], .ok .ldCAtHl [], .ok
       .ldCA []] := by decide

theorem test_decode_5x :
    [[0x50], [0x51], [0x52], [0x53], [0x54], [0x55], [0x56], [0x57], [0x58], [0x59], [0x5A], [0x5B], [0x5C],
      [0x5D], [0x5E], [0x5F]].map decode =
      [.ok .ldDB [], .ok .ldDC [], .ok .ldDD [], .ok .ldDE [], .ok .ldDH [], .ok .ldDL [], .ok .ldDAtHl [], .ok .ldDA
       [], .ok .ldEB [], .ok .ldEC [], .ok .ldED [], .ok .ldEE [], .ok .ldEH [], .ok .ldEL [], .ok .ldEAtHl [], .ok
       .ldEA []] := by decide

theorem test_decode_6x :
    [[0x60], [0x61], [0x62], [0x63], [0x64], [0x65], [0x66], [0x67], [0x68], [0x69], [0x6A], [0x6B], [0x6C],
      [0x6D], [0x6E], [0x6F]].map decode =
      [.ok .ldHB [], .ok .ldHC [], .ok .ldHD [], .ok .ldHE [], .ok .ldHH [], .ok .ldHL [], .ok .ldHAtHl [], .ok .ldHA
       [], .ok .ldLB [], .ok .ldLC [], .ok .ldLD [], .ok .ldLE [], .ok .ldLH [], .ok .ldLL [], .ok .ldLAtHl [], .ok
       .ldLA []] := by decide

theorem test_decode_7x :
    [[0x70], [0x71], [0x72], [0x73], [0x74], [0x75], [0x76], [0x77], [0x78], [0x79], [0x7A], [0x7B], [0x7C],
      [0x7D], [0x7E], [0x7F]].map decode =
      [.ok .ldAtHlB [], .ok .ldAtHlC [], .ok .ldAtHlD [], .ok .ldAtHlE [], .ok .ldAtHlH [], .ok .ldAtHlL [], .ok
       .halt [], .ok .ldAtHlA [], .ok .ldAB [], .ok .ldAC [], .ok .ldAD [], .ok .ldAE [], .ok .ldAH [], .ok .ldAL [],
       .ok .ldAAtHl [], .ok .ldAA []] := by decide

theorem test_decode_8x :
    [[0x80], [0x81], [0x82], [0x83], [0x84], [0x85], [0x86], [0x87], [0x88], [0x89], [0x8A], [0x8B], [0x8C],
      [0x8D], [0x8E], [0x8F]].map decode =
      [.ok .addAB [], .ok .addAC [], .ok .addAD [], .ok .addAE [], .ok .addAH [], .ok .addAL [], .ok .addAAtHl [],
       .ok .addAA [], .ok .adcAB [], .ok .adcAC [], .ok .adcAD [], .ok .adcAE [], .ok .adcAH [], .ok .adcAL [], .ok
       .adcAAtHl [], .ok .adcAA []] := by decide

theorem test_decode_9x :
    [[0x90], [0x91], [0x92], [0x93], [0x94], [0x95], [0x96], [0x97], [0x98], [0x99], [0x9A], [0x9B], [0x9C],
      [0x9D], [0x9E], [0x9F]].map decode =
      [.ok .subB [], .ok .subC [], .ok .subD [], .ok .subE [], .ok .subH [], .ok .subL [], .ok .subAtHl [], .ok .subA
       [], .ok .sbcAB [], .ok .sbcAC [], .ok .sbcAD [], .ok .sbcAE [], .ok .sbcAH [], .ok .sbcAL [], .ok .sbcAAtHl
       [], .ok .sbcAA []] := by decide

theorem test_decode_Ax :
    [[0xA0], [0xA1], [0xA2], [0xA3], [0xA4], [0xA5], [0xA6], [0xA7], [0xA8], [0xA9], [0xAA], [0xAB], [0xAC],
      [0xAD], [0xAE], [0xAF]].map decode =
      [.ok .andB [], .ok .andC [], .ok .andD [], .ok .andE [], .ok .andH [], .ok .andL [], .ok .andAtHl [], .ok .andA
       [], .ok .xorB [], .ok .xorC [], .ok .xorD [], .ok .xorE [], .ok .xorH [], .ok .xorL [], .ok .xorAtHl [], .ok
       .xorA []] := by decide

theorem test_decode_Bx :
    [[0xB0], [0xB1], [0xB2], [0xB3], [0xB4], [0xB5], [0xB6], [0xB7], [0xB8], [0xB9], [0xBA], [0xBB], [0xBC],
      [0xBD], [0xBE], [0xBF]].map decode =
      [.ok .orB [], .ok .orC [], .ok .orD [], .ok .orE [], .ok .orH [], .ok .orL [], .ok .orAtHl [], .ok .orA [], .ok
       .cpB [], .ok .cpC [], .ok .cpD [], .ok .cpE [], .ok .cpH [], .ok .cpL [], .ok .cpAtHl [], .ok .cpA []] := by decide

theorem test_decode_Cx :
    [[0xC0], [0xC1], [0xC2, 0x34, 0x12], [0xC3, 0x34, 0x12], [0xC4, 0x34, 0x12], [0xC5], [0xC6, 0x34], [0xC7],
      [0xC8], [0xC9], [0xCA, 0x34, 0x12], [0xCB], [0xCC, 0x34, 0x12], [0xCD, 0x34, 0x12], [0xCE, 0x34], [0xCF]].map decode =
      [.ok .retNz [], .ok .popBc [], .ok (.jpNzNn 0x1234) [], .ok (.jpNn 0x1234) [], .ok (.callNzNn 0x1234) [], .ok
       .pushBc [], .ok (.addAN 0x34) [], .ok .rst00 [], .ok .retZ [], .ok .ret [], .ok (.jpZNn 0x1234) [], .ok
       .prefixCb [], .ok (.callZNn 0x1234) [], .ok (.callNn 0x1234) [], .ok (.adcAN 0x34) [], .ok .rst08 []] := by decide

theorem test_decode_Dx :
    [[0xD0], [0xD1], [0xD2, 0x34, 0x12], [0xD3], [0xD4, 0x34, 0x12], [0xD5], [0xD6, 0x34], [0xD7], [0xD8], [0xD9],
      [0xDA, 0x34, 0x12], [0xDB], [0xDC, 0x34, 0x12], [0xDD], [0xDE, 0x34], [0xDF]].map decode =
      [.ok .retNc [], .ok .popDe [], .ok (.jpNcNn 0x1234) [], .ok (.illegal 0xD3) [], .ok (.callNcNn 0x1234) [], .ok
       .pushDe [], .ok (.subN 0x34) [], .ok .rst10 [], .ok .retC [], .ok .reti [], .ok (.jpCNn 0x1234) [], .ok
       (.illegal 0xDB) [], .ok (.callCNn 0x1234) [], .ok (.illegal 0xDD) [], .ok (.sbcAN 0x34) [], .ok .rst18 []] := by decide

theorem test_decode_Ex :
    [[0xE0, 0x34], [0xE1], [0xE2], [0xE3], [0xE4], [0xE5], [0xE6, 0x34], [0xE7], [0xE8, 0x34], [0xE9], [0xEA, 0x34,
      0x12], [0xEB], [0xEC], [0xED], [0xEE, 0x34], [0xEF]].map decode =
      [.ok (.ldhAtNA 0x34) [], .ok .popHl [], .ok .ldhAtCA [], .ok (.illegal 0xE3) [], .ok (.illegal 0xE4) [], .ok
       .pushHl [], .ok (.andN 0x34) [], .ok .rst20 [], .ok (.addSpE 0x34) [], .ok .jpHl [], .ok (.ldAtNnA 0x1234) [],
       .ok (.illegal 0xEB) [], .ok (.illegal 0xEC) [], .ok (.illegal 0xED) [], .ok (.xorN 0x34) [], .ok .rst28 []] := by decide

theorem test_decode_Fx :
    [[0xF0, 0x34], [0xF1], [0xF2], [0xF3], [0xF4], [0xF5], [0xF6, 0x34], [0xF7], [0xF8, 0x34], [0xF9], [0xFA, 0x34,
      0x12], [0xFB], [0xFC], [0xFD], [0xFE, 0x34], [0xFF]].map decode =
      [.ok (.ldhAAtN 0x34) [], .ok .popAf [], .ok .ldhAAtC [], .ok .di [], .ok (.illegal 0xF4) [], .ok .pushAf [],
       .ok (.orN 0x34) [], .ok .rst30 [], .ok (.ldHlSpE 0x34) [], .ok .ldSpHl [], .ok (.ldAAtNn 0x1234) [], .ok .ei
       [], .ok (.illegal 0xFC) [], .ok (.illegal 0xFD) [], .ok (.cpN 0x34) [], .ok .rst38 []] := by decide

theorem test_decode_cb_0x :
    [[0xCB, 0x00], [0xCB, 0x01], [0xCB, 0x02], [0xCB, 0x03], [0xCB, 0x04], [0xCB, 0x05], [0xCB, 0x06], [0xCB,
      0x07], [0xCB, 0x08], [0xCB, 0x09], [0xCB, 0x0A], [0xCB, 0x0B], [0xCB, 0x0C], [0xCB, 0x0D], [0xCB, 0x0E],
      [0xCB, 0x0F]].map decode =
      [.ok .rlcB [], .ok .rlcC [], .ok .rlcD [], .ok .rlcE [], .ok .rlcH [], .ok .rlcL [], .ok .rlcAtHl [], .ok .rlcA
       [], .ok .rrcB [], .ok .rrcC [], .ok .rrcD [], .ok .rrcE [], .ok .rrcH [], .ok .rrcL [], .ok .rrcAtHl [], .ok
       .rrcA []] := by decide

theorem test_decode_cb_1x :
    [[0xCB, 0x10], [0xCB, 0x11], [0xCB, 0x12], [0xCB, 0x13], [0xCB, 0x14], [0xCB, 0x15], [0xCB, 0x16], [0xCB,
      0x17], [0xCB, 0x18], [0xCB, 0x19], [0xCB, 0x1A], [0xCB, 0x1B], [0xCB, 0x1C], [0xCB, 0x1D], [0xCB, 0x1E],
      [0xCB, 0x1F]].map decode =
      [.ok .rlB [], .ok .rlC [], .ok .rlD [], .ok .rlE [], .ok .rlH [], .ok .rlL [], .ok .rlAtHl [], .ok .rlA [], .ok
       .rrB [], .ok .rrC [], .ok .rrD [], .ok .rrE [], .ok .rrH [], .ok .rrL [], .ok .rrAtHl [], .ok .rrA []] := by decide

theorem test_decode_cb_2x :
    [[0xCB, 0x20], [0xCB, 0x21], [0xCB, 0x22], [0xCB, 0x23], [0xCB, 0x24], [0xCB, 0x25], [0xCB, 0x26], [0xCB,
      0x27], [0xCB, 0x28], [0xCB, 0x29], [0xCB, 0x2A], [0xCB, 0x2B], [0xCB, 0x2C], [0xCB, 0x2D], [0xCB, 0x2E],
      [0xCB, 0x2F]].map decode =
      [.ok .slaB [], .ok .slaC [], .ok .slaD [], .ok .slaE [], .ok .slaH [], .ok .slaL [], .ok .slaAtHl [], .ok .slaA
       [], .ok .sraB [], .ok .sraC [], .ok .sraD [], .ok .sraE [], .ok .sraH [], .ok .sraL [], .ok .sraAtHl [], .ok
       .sraA []] := by decide

theorem test_decode_cb_3x :
    [[0xCB, 0x30], [0xCB, 0x31], [0xCB, 0x32], [0xCB, 0x33], [0xCB, 0x34], [0xCB, 0x35], [0xCB, 0x36], [0xCB,
      0x37], [0xCB, 0x38], [0xCB, 0x39], [0xCB, 0x3A], [0xCB, 0x3B], [0xCB, 0x3C], [0xCB, 0x3D], [0xCB, 0x3E],
      [0xCB, 0x3F]].map decode =
      [.ok .swapB [], .ok .swapC [], .ok .swapD [], .ok .swapE [], .ok .swapH [], .ok .swapL [], .ok .swapAtHl [],
       .ok .swapA [], .ok .srlB [], .ok .srlC [], .ok .srlD [], .ok .srlE [], .ok .srlH [], .ok .srlL [], .ok
       .srlAtHl [], .ok .srlA []] := by decide

theorem test_decode_cb_4x :
    [[0xCB, 0x40], [0xCB, 0x41], [0xCB, 0x42], [0xCB, 0x43], [0xCB, 0x44], [0xCB, 0x45], [0xCB, 0x46], [0xCB,
      0x47], [0xCB, 0x48], [0xCB, 0x49], [0xCB, 0x4A], [0xCB, 0x4B], [0xCB, 0x4C], [0xCB, 0x4D], [0xCB, 0x4E],
      [0xCB, 0x4F]].map decode =
      [.ok .bit0B [], .ok .bit0C [], .ok .bit0D [], .ok .bit0E [], .ok .bit0H [], .ok .bit0L [], .ok .bit0AtHl [],
       .ok .bit0A [], .ok .bit1B [], .ok .bit1C [], .ok .bit1D [], .ok .bit1E [], .ok .bit1H [], .ok .bit1L [], .ok
       .bit1AtHl [], .ok .bit1A []] := by decide

theorem test_decode_cb_5x :
    [[0xCB, 0x50], [0xCB, 0x51], [0xCB, 0x52], [0xCB, 0x53], [0xCB, 0x54], [0xCB, 0x55], [0xCB, 0x56], [0xCB,
      0x57], [0xCB, 0x58], [0xCB, 0x59], [0xCB, 0x5A], [0xCB, 0x5B], [0xCB, 0x5C], [0xCB, 0x5D], [0xCB, 0x5E],
      [0xCB, 0x5F]].map decode =
      [.ok .bit2B [], .ok .bit2C [], .ok .bit2D [], .ok .bit2E [], .ok .bit2H [], .ok .bit2L [], .ok .bit2AtHl [],
       .ok .bit2A [], .ok .bit3B [], .ok .bit3C [], .ok .bit3D [], .ok .bit3E [], .ok .bit3H [], .ok .bit3L [], .ok
       .bit3AtHl [], .ok .bit3A []] := by decide

theorem test_decode_cb_6x :
    [[0xCB, 0x60], [0xCB, 0x61], [0xCB, 0x62], [0xCB, 0x63], [0xCB, 0x64], [0xCB, 0x65], [0xCB, 0x66], [0xCB,
      0x67], [0xCB, 0x68], [0xCB, 0x69], [0xCB, 0x6A], [0xCB, 0x6B], [0xCB, 0x6C], [0xCB, 0x6D], [0xCB, 0x6E],
      [0xCB, 0x6F]].map decode =
      [.ok .bit4B [], .ok .bit4C [], .ok .bit4D [], .ok .bit4E [], .ok .bit4H [], .ok .bit4L [], .ok .bit4AtHl [],
       .ok .bit4A [], .ok .bit5B [], .ok .bit5C [], .ok .bit5D [], .ok .bit5E [], .ok .bit5H [], .ok .bit5L [], .ok
       .bit5AtHl [], .ok .bit5A []] := by decide

theorem test_decode_cb_7x :
    [[0xCB, 0x70], [0xCB, 0x71], [0xCB, 0x72], [0xCB, 0x73], [0xCB, 0x74], [0xCB, 0x75], [0xCB, 0x76], [0xCB,
      0x77], [0xCB, 0x78], [0xCB, 0x79], [0xCB, 0x7A], [0xCB, 0x7B], [0xCB, 0x7C], [0xCB, 0x7D], [0xCB, 0x7E],
      [0xCB, 0x7F]].map decode =
      [.ok .bit6B [], .ok .bit6C [], .ok .bit6D [], .ok .bit6E [], .ok .bit6H [], .ok .bit6L [], .ok .bit6AtHl [],
       .ok .bit6A [], .ok .bit7B [], .ok .bit7C [], .ok .bit7D [], .ok .bit7E [], .ok .bit7H [], .ok .bit7L [], .ok
       .bit7AtHl [], .ok .bit7A []] := by decide

theorem test_decode_cb_8x :
    [[0xCB, 0x80], [0xCB, 0x81], [0xCB, 0x82], [0xCB, 0x83], [0xCB, 0x84], [0xCB, 0x85], [0xCB, 0x86], [0xCB,
      0x87], [0xCB, 0x88], [0xCB, 0x89], [0xCB, 0x8A], [0xCB, 0x8B], [0xCB, 0x8C], [0xCB, 0x8D], [0xCB, 0x8E],
      [0xCB, 0x8F]].map decode =
      [.ok .res0B [], .ok .res0C [], .ok .res0D [], .ok .res0E [], .ok .res0H [], .ok .res0L [], .ok .res0AtHl [],
       .ok .res0A [], .ok .res1B [], .ok .res1C [], .ok .res1D [], .ok .res1E [], .ok .res1H [], .ok .res1L [], .ok
       .res1AtHl [], .ok .res1A []] := by decide

theorem test_decode_cb_9x :
    [[0xCB, 0x90], [0xCB, 0x91], [0xCB, 0x92], [0xCB, 0x93], [0xCB, 0x94], [0xCB, 0x95], [0xCB, 0x96], [0xCB,
      0x97], [0xCB, 0x98], [0xCB, 0x99], [0xCB, 0x9A], [0xCB, 0x9B], [0xCB, 0x9C], [0xCB, 0x9D], [0xCB, 0x9E],
      [0xCB, 0x9F]].map decode =
      [.ok .res2B [], .ok .res2C [], .ok .res2D [], .ok .res2E [], .ok .res2H [], .ok .res2L [], .ok .res2AtHl [],
       .ok .res2A [], .ok .res3B [], .ok .res3C [], .ok .res3D [], .ok .res3E [], .ok .res3H [], .ok .res3L [], .ok
       .res3AtHl [], .ok .res3A []] := by decide

theorem test_decode_cb_Ax :
    [[0xCB, 0xA0], [0xCB, 0xA1], [0xCB, 0xA2], [0xCB, 0xA3], [0xCB, 0xA4], [0xCB, 0xA5], [0xCB, 0xA6], [0xCB,
      0xA7], [0xCB, 0xA8], [0xCB, 0xA9], [0xCB, 0xAA], [0xCB, 0xAB], [0xCB, 0xAC], [0xCB, 0xAD], [0xCB, 0xAE],
      [0xCB, 0xAF]].map decode =
      [.ok .res4B [], .ok .res4C [], .ok .res4D [], .ok .res4E [], .ok .res4H [], .ok .res4L [], .ok .res4AtHl [],
       .ok .res4A [], .ok .res5B [], .ok .res5C [], .ok .res5D [], .ok .res5E [], .ok .res5H [], .ok .res5L [], .ok
       .res5AtHl [], .ok .res5A []] := by decide

theorem test_decode_cb_Bx :
    [[0xCB, 0xB0], [0xCB, 0xB1], [0xCB, 0xB2], [0xCB, 0xB3], [0xCB, 0xB4], [0xCB, 0xB5], [0xCB, 0xB6], [0xCB,
      0xB7], [0xCB, 0xB8], [0xCB, 0xB9], [0xCB, 0xBA], [0xCB, 0xBB], [0xCB, 0xBC], [0xCB, 0xBD], [0xCB, 0xBE],
      [0xCB, 0xBF]].map decode =
      [.ok .res6B [], .ok .res6C [], .ok .res6D [], .ok .res6E [], .ok .res6H [], .ok .res6L [], .ok .res6AtHl [],
       .ok .res6A [], .ok .res7B [], .ok .res7C [], .ok .res7D [], .ok .res7E [], .ok .res7H [], .ok .res7L [], .ok
       .res7AtHl [], .ok .res7A []] := by decide

theorem test_decode_cb_Cx :
    [[0xCB, 0xC0], [0xCB, 0xC1], [0xCB, 0xC2], [0xCB, 0xC3], [0xCB, 0xC4], [0xCB, 0xC5], [0xCB, 0xC6], [0xCB,
      0xC7], [0xCB, 0xC8], [0xCB, 0xC9], [0xCB, 0xCA], [0xCB, 0xCB], [0xCB, 0xCC], [0xCB, 0xCD], [0xCB, 0xCE],
      [0xCB, 0xCF]].map decode =
      [.ok .set0B [], .ok .set0C [], .ok .set0D [], .ok .set0E [], .ok .set0H [], .ok .set0L [], .ok .set0AtHl [],
       .ok .set0A [], .ok .set1B [], .ok .set1C [], .ok .set1D [], .ok .set1E [], .ok .set1H [], .ok .set1L [], .ok
       .set1AtHl [], .ok .set1A []] := by decide

theorem test_decode_cb_Dx :
    [[0xCB, 0xD0], [0xCB, 0xD1], [0xCB, 0xD2], [0xCB, 0xD3], [0xCB, 0xD4], [0xCB, 0xD5], [0xCB, 0xD6], [0xCB,
      0xD7], [0xCB, 0xD8], [0xCB, 0xD9], [0xCB, 0xDA], [0xCB, 0xDB], [0xCB, 0xDC], [0xCB, 0xDD], [0xCB, 0xDE],
      [0xCB, 0xDF]].map decode =
      [.ok .set2B [], .ok .set2C [], .ok .set2D [], .ok .set2E [], .ok .set2H [], .ok .set2L [], .ok .set2AtHl [],
       .ok .set2A [], .ok .set3B [], .ok .set3C [], .ok .set3D [], .ok .set3E [], .ok .set3H [], .ok .set3L [], .ok
       .set3AtHl [], .ok .set3A []] := by decide

theorem test_decode_cb_Ex :
    [[0xCB, 0xE0], [0xCB, 0xE1], [0xCB, 0xE2], [0xCB, 0xE3], [0xCB, 0xE4], [0xCB, 0xE5], [0xCB, 0xE6], [0xCB,
      0xE7], [0xCB, 0xE8], [0xCB, 0xE9], [0xCB, 0xEA], [0xCB, 0xEB], [0xCB, 0xEC], [0xCB, 0xED], [0xCB, 0xEE],
      [0xCB, 0xEF]].map decode =
      [.ok .set4B [], .ok .set4C [], .ok .set4D [], .ok .set4E [], .ok .set4H [], .ok .set4L [], .ok .set4AtHl [],
       .ok .set4A [], .ok .set5B [], .ok .set5C [], .ok .set5D [], .ok .set5E [], .ok .set5H [], .ok .set5L [], .ok
       .set5AtHl [], .ok .set5A []] := by decide

theorem test_decode_cb_Fx :
    [[0xCB, 0xF0], [0xCB, 0xF1], [0xCB, 0xF2], [0xCB, 0xF3], [0xCB, 0xF4], [0xCB, 0xF5], [0xCB, 0xF6], [0xCB,
      0xF7], [0xCB, 0xF8], [0xCB, 0xF9], [0xCB, 0xFA], [0xCB, 0xFB], [0xCB, 0xFC], [0xCB, 0xFD], [0xCB, 0xFE],
      [0xCB, 0xFF]].map decode =
      [.ok .set6B [], .ok .set6C [], .ok .set6D [], .ok .set6E [], .ok .set6H [], .ok .set6L [], .ok .set6AtHl [],
       .ok .set6A [], .ok .set7B [], .ok .set7C [], .ok .set7D [], .ok .set7E [], .ok .set7H [], .ok .set7L [], .ok
       .set7AtHl [], .ok .set7A []] := by decide

theorem test_decode_no_byte : decode [] = .rejected .noByte := by decide

theorem test_decode_truncated_byte : decode [0x06] = .rejected (.truncated 1 2) := by decide

theorem test_decode_truncated_word : decode [0xC3, 0x00] = .rejected (.truncated 2 3) := by decide

theorem test_encode_word_low_byte_first : encode (.jpNn 0x8000) = [0xC3, 0x00, 0x80] := by decide

/-! ### The host's interface -/

theorem test_table_word_nop : decodeTableWord 8 0x00 = some .nop := by decide

theorem test_table_word_operand_zeros : decodeTableWord 8 0x01 = some (.ldBcNn 0x0000) := by decide

theorem test_table_word_stop : decodeTableWord 8 0x10 = some (.stop 0x00) := by decide

theorem test_table_word_prefix : decodeTableWord 8 0xCB = some .prefixCb := by decide

theorem test_table_word_cb : decodeTableWord 16 0xCB40 = some .bit0B := by decide

theorem test_table_word_cb_first_byte_low : decodeTableWord 16 0x40CB = some .bit0B := by decide

theorem test_fetch_word_runs : stepTo (State.reset.withFetchWord 8 0x3C) (fun t => (t.a, t.pc)) = some (0x02, 0x0101) := by decide

theorem test_fetch_word_cb_runs :
    stepTo (State.reset.withFetchWord 16 0xCBC0) (fun t => (t.b, t.pc)) = some (0x01, 0x0102) := by decide

/-! ### One Step on the spec's vectors -/

/-- 95_test_vectors.md, vector V7. -/
theorem test_halt_gated_by_ie :
    stepTo (withCells { bench with config := { haltBugIeGated := true } } [(0xFF0F, 0x01), (0xFFFF, 0x00), (0x0100, 0x76), (0x0101, 0x3C)])
        (fun t => (t.pc, t.runState, t.stepCycles, t.busAccesses)) =
      some (0x0101, .halted, 1, [.read 0x0100 0x76, .read 0xFFFF 0x00, .read 0xFF0F 0x01]) := by decide

/-- 95_test_vectors.md, vector V76. -/
theorem test_ld_c_n :
    stepTo (withCells { bench with f := 0xF0 } [(0x0100, 0x0E), (0x0101, 0x80)])
        (fun t => (t.c, t.pc, t.f, t.stepCycles, t.busAccesses)) =
      some (0x80, 0x0102, 0xF0, 2, [.read 0x0100 0x0E, .read 0x0101 0x80]) := by decide

/-- 95_test_vectors.md, vector V82. -/
theorem test_ld_at_hl_n :
    stepTo (withCells { bench with h := 0xC0, l := 0x10, f := 0xF0 } [(0x0100, 0x36), (0x0101, 0xAB)])
        (fun t => (t.pc, t.f, t.stepCycles, t.busAccesses)) =
      some (0x0102, 0xF0, 3, [.read 0x0100 0x36, .read 0x0101 0xAB, .write 0xC010 0xAB]) := by decide

/-- 95_test_vectors.md, vector V84. -/
theorem test_ld_a_at_bc :
    stepTo (withCells { bench with b := 0xC1, c := 0x23 } [(0xC123, 0x77), (0x0100, 0x0A)])
        (fun t => (t.a, t.pc, t.stepCycles, t.busAccesses)) =
      some (0x77, 0x0101, 2, [.read 0x0100 0x0A, .read 0xC123 0x77]) := by decide

/-- 95_test_vectors.md, vector V87. -/
theorem test_ld_at_de_a :
    stepTo (withCells { bench with d := 0xC2, e := 0x00, a := 0x42 } [(0x0100, 0x12)])
        (fun t => (t.pc, t.stepCycles, t.busAccesses)) =
      some (0x0101, 2, [.read 0x0100 0x12, .write 0xC200 0x42]) := by decide

/-- 95_test_vectors.md, vector V90. -/
theorem test_ld_at_nn_a_top :
    stepTo (withCells { bench with a := 0x1F } [(0x0100, 0xEA), (0x0101, 0xFF), (0x0102, 0xFF)])
        (fun t => (t.pc, t.stepCycles, t.busAccesses)) =
      some (0x0103, 4, [.read 0x0100 0xEA, .read 0x0101 0xFF, .read 0x0102 0xFF, .write 0xFFFF 0x1F]) := by decide

/-- 95_test_vectors.md, vector V92. -/
theorem test_ldh_a_at_n :
    stepTo (withCells bench [(0xFFFF, 0x1F), (0x0100, 0xF0), (0x0101, 0xFF)])
        (fun t => (t.a, t.pc, t.stepCycles, t.busAccesses)) =
      some (0x1F, 0x0102, 3, [.read 0x0100 0xF0, .read 0x0101 0xFF, .read 0xFFFF 0x1F]) := by decide

/-- 95_test_vectors.md, vector V95. -/
theorem test_ldh_at_c_a :
    stepTo (withCells { bench with c := 0x80, a := 0x3C } [(0x0100, 0xE2)])
        (fun t => (t.pc, t.stepCycles, t.busAccesses)) =
      some (0x0101, 2, [.read 0x0100 0xE2, .write 0xFF80 0x3C]) := by decide

/-- 95_test_vectors.md, vector V97. -/
theorem test_ld_a_at_hl_inc_wraps :
    stepTo (withCells { bench with h := 0xFF, l := 0xFF } [(0xFFFF, 0x1F), (0x0100, 0x2A)])
        (fun t => ((t.a, t.h, t.l), t.pc, t.stepCycles, t.busAccesses)) =
      some ((0x1F, 0x00, 0x00), 0x0101, 2, [.read 0x0100 0x2A, .read 0xFFFF 0x1F]) := by decide

/-- 95_test_vectors.md, vector V102. -/
theorem test_ld_at_hl_dec_a_wraps :
    stepTo (withCells { bench with h := 0x00, l := 0x00, a := 0x07 } [(0x0100, 0x32)])
        (fun t => (t.h, t.l, t.pc, t.stepCycles, t.busAccesses)) =
      some (0xFF, 0xFF, 0x0101, 2, [.read 0x0100 0x32, .write 0x0000 0x07]) := by decide

/-- 95_test_vectors.md, vector V103. -/
theorem test_ld_bc_nn :
    stepTo (withCells bench [(0x0100, 0x01), (0x0101, 0x34), (0x0102, 0x12)])
        (fun t => (t.b, t.c, t.pc, t.stepCycles, t.busAccesses)) =
      some (0x12, 0x34, 0x0103, 3, [.read 0x0100 0x01, .read 0x0101 0x34, .read 0x0102 0x12]) := by decide

/-- 95_test_vectors.md, vector V109. -/
theorem test_ld_at_nn_sp_wraps :
    stepTo (withCells { bench with sp := 0x1234 } [(0x0100, 0x08), (0x0101, 0xFF), (0x0102, 0xFF)])
        (fun t => (t.pc, t.stepCycles, t.busAccesses)) =
      some (0x0103, 5, [.read 0x0100 0x08, .read 0x0101 0xFF, .read 0x0102 0xFF, .write 0xFFFF 0x34, .write 0x0000 0x12]) := by decide

/-- 95_test_vectors.md, vector V110. -/
theorem test_ld_sp_hl :
    stepTo (withCells { bench with h := 0xD0, l := 0x00, f := 0xF0 } [(0x0100, 0xF9)])
        (fun t => (t.sp, t.pc, t.f, t.stepCycles, t.busAccesses)) =
      some (0xD000, 0x0101, 0xF0, 2, [.read 0x0100 0xF9]) := by decide

/-- 95_test_vectors.md, vector V115. -/
theorem test_ld_hl_sp_e_negative :
    stepTo (withCells { bench with sp := 0x0000 } [(0x0100, 0xF8), (0x0101, 0x80)])
        (fun t => (t.h, t.l, t.pc, t.stepCycles, t.busAccesses)) =
      some (0xFF, 0x80, 0x0102, 3, [.read 0x0100 0xF8, .read 0x0101 0x80]) := by decide

/-- 95_test_vectors.md, vector V118. -/
theorem test_push_de_high_byte_first :
    stepTo (withCells { bench with sp := 0xD000, d := 0xAB, e := 0xCD } [(0x0100, 0xD5)])
        (fun t => (t.sp, t.pc, t.stepCycles, t.busAccesses)) =
      some (0xCFFE, 0x0101, 4, [.read 0x0100 0xD5, .write 0xCFFF 0xAB, .write 0xCFFE 0xCD]) := by decide

/-- 95_test_vectors.md, vector V125. -/
theorem test_pop_af_drops_low_nibble :
    stepTo (withCells { bench with sp := 0xFFFC } [(0xFFFC, 0xFF), (0xFFFD, 0x12), (0x0100, 0xF1)])
        (fun t => ((t.a, t.f, t.sp), t.pc, t.stepCycles, t.busAccesses)) =
      some ((0x12, 0xF0, 0xFFFE), 0x0101, 3, [.read 0x0100 0xF1, .read 0xFFFC 0xFF, .read 0xFFFD 0x12]) := by decide

/-- 95_test_vectors.md, vector V127. -/
theorem test_pop_wraps :
    stepTo (withCells { bench with sp := 0xFFFF } [(0x0000, 0x12), (0xFFFF, 0x34), (0x0100, 0xC1)])
        (fun t => ((t.b, t.c, t.sp), t.pc, t.stepCycles, t.busAccesses)) =
      some ((0x12, 0x34, 0x0001), 0x0101, 3, [.read 0x0100 0xC1, .read 0xFFFF 0x34, .read 0x0000 0x12]) := by decide

/-- 95_test_vectors.md, vector V300. -/
theorem test_adc_at_hl :
    stepTo (withCells { bench with a := 0xE1, f := 0x10, h := 0xC0, l := 0x00 } [(0xC000, 0x1E), (0x0100, 0x8E)])
        (fun t => (t.a, t.f, t.pc, t.stepCycles, t.busAccesses)) =
      some (0x00, 0xB0, 0x0101, 2, [.read 0x0100 0x8E, .read 0xC000 0x1E]) := by decide

/-- 95_test_vectors.md, vector V306. -/
theorem test_sbc_at_hl :
    stepTo (withCells { bench with a := 0x3B, f := 0x10, h := 0xC0, l := 0x00 } [(0xC000, 0x4F), (0x0100, 0x9E)])
        (fun t => (t.a, t.f, t.pc, t.stepCycles, t.busAccesses)) =
      some (0xEB, 0x70, 0x0101, 2, [.read 0x0100 0x9E, .read 0xC000 0x4F]) := by decide

/-- 95_test_vectors.md, vector V310. -/
theorem test_and_sets_half_carry :
    stepTo (withCells { bench with a := 0x5A, h := 0xC0, l := 0x00 } [(0xC000, 0x00), (0x0100, 0xA6)])
        (fun t => (t.a, t.f, t.pc, t.stepCycles, t.busAccesses)) =
      some (0x00, 0xA0, 0x0101, 2, [.read 0x0100 0xA6, .read 0xC000 0x00]) := by decide

/-- 95_test_vectors.md, vector V314. -/
theorem test_xor_at_hl :
    stepTo (withCells { bench with a := 0xFF, h := 0xC0, l := 0x00 } [(0xC000, 0x8A), (0x0100, 0xAE)])
        (fun t => (t.a, t.pc, t.stepCycles, t.busAccesses)) =
      some (0x75, 0x0101, 2, [.read 0x0100 0xAE, .read 0xC000 0x8A]) := by decide

/-- 95_test_vectors.md, vector V316. -/
theorem test_or_at_hl :
    stepTo (withCells { bench with a := 0x5A, h := 0xC0, l := 0x00 } [(0xC000, 0x0F), (0x0100, 0xB6)])
        (fun t => (t.a, t.pc, t.stepCycles, t.busAccesses)) =
      some (0x5F, 0x0101, 2, [.read 0x0100 0xB6, .read 0xC000 0x0F]) := by decide

/-- 95_test_vectors.md, vector V321. -/
theorem test_cp_n_keeps_a :
    stepTo (withCells { bench with a := 0x3C } [(0x0100, 0xFE), (0x0101, 0x3C)])
        (fun t => (t.f, t.pc, t.a, t.stepCycles, t.busAccesses)) =
      some (0xC0, 0x0102, 0x3C, 2, [.read 0x0100 0xFE, .read 0x0101 0x3C]) := by decide

/-- 95_test_vectors.md, vector V366. -/
theorem test_inc_at_hl_wraps :
    stepTo (withCells { bench with h := 0xC0, l := 0x00 } [(0xC000, 0xFF), (0x0100, 0x34)])
        (fun t => (t.f, t.pc, t.stepCycles, t.busAccesses)) =
      some (0xA0, 0x0101, 3, [.read 0x0100 0x34, .read 0xC000 0xFF, .write 0xC000 0x00]) := by decide

/-- 95_test_vectors.md, vector V368. -/
theorem test_dec_at_hl_keeps_carry :
    stepTo (withCells { bench with h := 0xC0, l := 0x00, f := 0x10 } [(0xC000, 0x01), (0x0100, 0x35)])
        (fun t => (t.f, t.pc, t.stepCycles, t.busAccesses)) =
      some (0xD0, 0x0101, 3, [.read 0x0100 0x35, .read 0xC000 0x01, .write 0xC000 0x00]) := by decide

/-- 95_test_vectors.md, vector V501. -/
theorem test_cpl :
    stepTo (withCells { bench with a := 0x35, f := 0x80 } [(0x0100, 0x2F)])
        (fun t => (t.a, t.f, t.pc, t.stepCycles, t.busAccesses)) =
      some (0xCA, 0xE0, 0x0101, 1, [.read 0x0100 0x2F]) := by decide

/-- 95_test_vectors.md, vector V504. -/
theorem test_scf :
    stepTo (withCells { bench with f := 0x10 } [(0x0100, 0x37)])
        (fun t => (t.pc, t.f, t.stepCycles, t.busAccesses)) =
      some (0x0101, 0x10, 1, [.read 0x0100 0x37]) := by decide

/-- 95_test_vectors.md, vector V506. -/
theorem test_ccf :
    stepTo (withCells { bench with f := 0x60 } [(0x0100, 0x3F)])
        (fun t => (t.f, t.pc, t.stepCycles, t.busAccesses)) =
      some (0x10, 0x0101, 1, [.read 0x0100 0x3F]) := by decide

/-- 95_test_vectors.md, vector V508. -/
theorem test_add_hl_hl :
    stepTo (withCells { bench with h := 0x8A, l := 0x23 } [(0x0100, 0x29)])
        (fun t => ((t.f, t.h, t.l), t.pc, t.stepCycles, t.busAccesses)) =
      some ((0x30, 0x14, 0x46), 0x0101, 2, [.read 0x0100 0x29]) := by decide

/-- 95_test_vectors.md, vector V516. -/
theorem test_inc_sp_wraps :
    stepTo (withCells { bench with sp := 0xFFFF } [(0x0100, 0x33)])
        (fun t => (t.sp, t.pc, t.stepCycles, t.busAccesses)) =
      some (0x0000, 0x0101, 2, [.read 0x0100 0x33]) := by decide

/-- 95_test_vectors.md, vector V518. -/
theorem test_dec_de_writes_no_flag :
    stepTo (withCells { bench with d := 0x00, e := 0x01 } [(0x0100, 0x1B)])
        (fun t => (t.e, t.pc, t.stepCycles, t.busAccesses)) =
      some (0x00, 0x0101, 2, [.read 0x0100 0x1B]) := by decide

/-- 95_test_vectors.md, vector V524. -/
theorem test_add_sp_e_negative :
    stepTo (withCells { bench with sp := 0x0001 } [(0x0100, 0xE8), (0x0101, 0xFF)])
        (fun t => (t.f, t.sp, t.pc, t.stepCycles, t.busAccesses)) =
      some (0x30, 0x0000, 0x0102, 4, [.read 0x0100 0xE8, .read 0x0101 0xFF]) := by decide

/-- 95_test_vectors.md, vector V722. -/
theorem test_swap_c :
    stepTo (withCells { bench with c := 0xA5, f := 0xF0 } [(0x0100, 0xCB), (0x0101, 0x31)])
        (fun t => (t.f, t.c, t.pc, t.stepCycles, t.busAccesses)) =
      some (0x00, 0x5A, 0x0102, 2, [.read 0x0100 0xCB, .read 0x0101 0x31]) := by decide

/-- 95_test_vectors.md, vector V731. -/
theorem test_rl_at_hl :
    stepTo (withCells { bench with h := 0xC0, l := 0x00 } [(0xC000, 0x11), (0x0100, 0xCB), (0x0101, 0x16)])
        (fun t => (t.pc, t.stepCycles, t.busAccesses)) =
      some (0x0102, 4, [.read 0x0100 0xCB, .read 0x0101 0x16, .read 0xC000 0x11, .write 0xC000 0x22]) := by decide

/-- 95_test_vectors.md, vector V734. -/
theorem test_sra_at_hl_zero :
    stepTo (withCells { bench with h := 0xC0, l := 0x00 } [(0xC000, 0x01), (0x0100, 0xCB), (0x0101, 0x2E)])
        (fun t => (t.f, t.pc, t.stepCycles, t.busAccesses)) =
      some (0x90, 0x0102, 4, [.read 0x0100 0xCB, .read 0x0101 0x2E, .read 0xC000 0x01, .write 0xC000 0x00]) := by decide

/-- 95_test_vectors.md, vector V745. -/
theorem test_bit_7_a_keeps_carry :
    stepTo (withCells { bench with a := 0x80, f := 0x10 } [(0x0100, 0xCB), (0x0101, 0x7F)])
        (fun t => (t.f, t.pc, t.stepCycles, t.busAccesses)) =
      some (0x30, 0x0102, 2, [.read 0x0100 0xCB, .read 0x0101 0x7F]) := by decide

/-- 95_test_vectors.md, vector V748. -/
theorem test_bit_1_at_hl :
    stepTo (withCells { bench with h := 0xC0, l := 0x00, f := 0x90 } [(0xC000, 0xFE), (0x0100, 0xCB), (0x0101, 0x4E)])
        (fun t => (t.f, t.pc, t.stepCycles, t.busAccesses)) =
      some (0x30, 0x0102, 3, [.read 0x0100 0xCB, .read 0x0101 0x4E, .read 0xC000 0xFE]) := by decide

/-- 95_test_vectors.md, vector V766. -/
theorem test_res_1_l :
    stepTo (withCells { bench with l := 0x3B } [(0x0100, 0xCB), (0x0101, 0x8D)])
        (fun t => (t.l, t.pc, t.stepCycles, t.busAccesses)) =
      some (0x39, 0x0102, 2, [.read 0x0100 0xCB, .read 0x0101 0x8D]) := by decide

/-- 95_test_vectors.md, vector V768. -/
theorem test_res_at_hl_always_writes :
    stepTo (withCells { bench with h := 0xC0, l := 0x00 } [(0xC000, 0x00), (0x0100, 0xCB), (0x0101, 0x86)])
        (fun t => (t.pc, t.stepCycles, t.busAccesses)) =
      some (0x0102, 4, [.read 0x0100 0xCB, .read 0x0101 0x86, .read 0xC000 0x00, .write 0xC000 0x00]) := by decide

/-- 95_test_vectors.md, vector V772. -/
theorem test_set_7_at_hl :
    stepTo (withCells { bench with h := 0xC0, l := 0x00, f := 0xF0 } [(0xC000, 0x7F), (0x0100, 0xCB), (0x0101, 0xFE)])
        (fun t => (t.pc, t.f, t.stepCycles, t.busAccesses)) =
      some (0x0102, 0xF0, 4, [.read 0x0100 0xCB, .read 0x0101 0xFE, .read 0xC000 0x7F, .write 0xC000 0xFF]) := by decide

/-- 95_test_vectors.md, vector V774. -/
theorem test_jp_nz_taken :
    stepTo (withCells { bench with f := 0x00 } [(0x0100, 0xC2), (0x0101, 0x00), (0x0102, 0x80)])
        (fun t => (t.pc, t.f, t.stepCycles, t.busAccesses)) =
      some (0x8000, 0x00, 4, [.read 0x0100 0xC2, .read 0x0101 0x00, .read 0x0102 0x80]) := by decide

/-- 95_test_vectors.md, vector V775. -/
theorem test_jp_nz_not_taken :
    stepTo (withCells { bench with f := 0x80 } [(0x0100, 0xC2), (0x0101, 0x00), (0x0102, 0x80)])
        (fun t => (t.pc, t.f, t.stepCycles, t.busAccesses)) =
      some (0x0103, 0x80, 3, [.read 0x0100 0xC2, .read 0x0101 0x00, .read 0x0102 0x80]) := by decide

/-- 95_test_vectors.md, vector V778. -/
theorem test_jp_nc_taken :
    stepTo (withCells { bench with f := 0x00 } [(0x0100, 0xD2), (0x0101, 0x00), (0x0102, 0x80)])
        (fun t => (t.pc, t.f, t.stepCycles, t.busAccesses)) =
      some (0x8000, 0x00, 4, [.read 0x0100 0xD2, .read 0x0101 0x00, .read 0x0102 0x80]) := by decide

/-- 95_test_vectors.md, vector V779. -/
theorem test_jp_nc_not_taken :
    stepTo (withCells { bench with f := 0x10 } [(0x0100, 0xD2), (0x0101, 0x00), (0x0102, 0x80)])
        (fun t => (t.pc, t.f, t.stepCycles, t.busAccesses)) =
      some (0x0103, 0x10, 3, [.read 0x0100 0xD2, .read 0x0101 0x00, .read 0x0102 0x80]) := by decide

/-- 95_test_vectors.md, vector V780. -/
theorem test_jp_c_taken :
    stepTo (withCells { bench with f := 0x10 } [(0x0100, 0xDA), (0x0101, 0x00), (0x0102, 0x80)])
        (fun t => (t.pc, t.f, t.stepCycles, t.busAccesses)) =
      some (0x8000, 0x10, 4, [.read 0x0100 0xDA, .read 0x0101 0x00, .read 0x0102 0x80]) := by decide

/-- 95_test_vectors.md, vector V781. -/
theorem test_jp_c_not_taken :
    stepTo (withCells { bench with f := 0x00 } [(0x0100, 0xDA), (0x0101, 0x00), (0x0102, 0x80)])
        (fun t => (t.pc, t.f, t.stepCycles, t.busAccesses)) =
      some (0x0103, 0x00, 3, [.read 0x0100 0xDA, .read 0x0101 0x00, .read 0x0102 0x80]) := by decide

/-- 95_test_vectors.md, vector V785. -/
theorem test_jr_backwards :
    stepTo (withCells bench [(0x0100, 0x18), (0x0101, 0x80)])
        (fun t => (t.pc, t.stepCycles, t.busAccesses)) =
      some (0x0082, 3, [.read 0x0100 0x18, .read 0x0101 0x80]) := by decide

/-- 95_test_vectors.md, vector V791. -/
theorem test_jr_nz_not_taken :
    stepTo (withCells { bench with pc := 0x0200, f := 0x80 } [(0x0200, 0x20), (0x0201, 0xFA)])
        (fun t => (t.pc, t.f, t.stepCycles, t.busAccesses)) =
      some (0x0202, 0x80, 2, [.read 0x0200 0x20, .read 0x0201 0xFA]) := by decide

/-- 95_test_vectors.md, vector V795. -/
theorem test_jr_nc_not_taken :
    stepTo (withCells { bench with pc := 0x0200, f := 0x10 } [(0x0200, 0x30), (0x0201, 0xFA)])
        (fun t => (t.pc, t.f, t.stepCycles, t.busAccesses)) =
      some (0x0202, 0x10, 2, [.read 0x0200 0x30, .read 0x0201 0xFA]) := by decide

/-- 95_test_vectors.md, vector V796. -/
theorem test_jr_c_taken :
    stepTo (withCells { bench with pc := 0x0200, f := 0x10 } [(0x0200, 0x38), (0x0201, 0xFA)])
        (fun t => (t.pc, t.f, t.stepCycles, t.busAccesses)) =
      some (0x01FC, 0x10, 3, [.read 0x0200 0x38, .read 0x0201 0xFA]) := by decide

/-- 95_test_vectors.md, vector V800. -/
theorem test_call_nz_not_taken :
    stepTo (withCells { bench with f := 0x80, sp := 0xD000 } [(0x0100, 0xC4), (0x0101, 0x34), (0x0102, 0x12)])
        (fun t => (t.pc, t.f, t.stepCycles, t.busAccesses)) =
      some (0x0103, 0x80, 3, [.read 0x0100 0xC4, .read 0x0101 0x34, .read 0x0102 0x12]) := by decide

/-- 95_test_vectors.md, vector V801. -/
theorem test_call_z_taken :
    stepTo (withCells { bench with f := 0x80, sp := 0xD000 } [(0x0100, 0xCC), (0x0101, 0x34), (0x0102, 0x12)])
        (fun t => (t.sp, t.pc, t.f, t.stepCycles, t.busAccesses)) =
      some (0xCFFE, 0x1234, 0x80, 6, [.read 0x0100 0xCC, .read 0x0101 0x34, .read 0x0102 0x12, .write 0xCFFF 0x01, .write 0xCFFE 0x03]) := by decide

/-- 95_test_vectors.md, vector V803. -/
theorem test_call_nc_taken :
    stepTo (withCells { bench with f := 0x00, sp := 0xD000 } [(0x0100, 0xD4), (0x0101, 0x34), (0x0102, 0x12)])
        (fun t => (t.sp, t.pc, t.f, t.stepCycles, t.busAccesses)) =
      some (0xCFFE, 0x1234, 0x00, 6, [.read 0x0100 0xD4, .read 0x0101 0x34, .read 0x0102 0x12, .write 0xCFFF 0x01, .write 0xCFFE 0x03]) := by decide

/-- 95_test_vectors.md, vector V806. -/
theorem test_call_c_not_taken :
    stepTo (withCells { bench with f := 0x00, sp := 0xD000 } [(0x0100, 0xDC), (0x0101, 0x34), (0x0102, 0x12)])
        (fun t => (t.pc, t.f, t.stepCycles, t.busAccesses)) =
      some (0x0103, 0x00, 3, [.read 0x0100 0xDC, .read 0x0101 0x34, .read 0x0102 0x12]) := by decide

/-- 95_test_vectors.md, vector V814. -/
theorem test_rst_38 :
    stepTo (withCells { bench with pc := 0x0150, sp := 0xD000 } [(0x0150, 0xFF)])
        (fun t => (t.sp, t.pc, t.stepCycles, t.busAccesses)) =
      some (0xCFFE, 0x0038, 4, [.read 0x0150 0xFF, .write 0xCFFF 0x01, .write 0xCFFE 0x51]) := by decide

/-- 95_test_vectors.md, vector V818. -/
theorem test_ret_z_taken :
    stepTo (withCells { bench with f := 0x80, sp := 0xCFFE } [(0xCFFE, 0x03), (0xCFFF, 0x80), (0x0100, 0xC8)])
        (fun t => (t.sp, t.pc, t.f, t.stepCycles, t.busAccesses)) =
      some (0xD000, 0x8003, 0x80, 5, [.read 0x0100 0xC8, .read 0xCFFE 0x03, .read 0xCFFF 0x80]) := by decide

/-- 95_test_vectors.md, vector V819. -/
theorem test_ret_z_not_taken :
    stepTo (withCells { bench with f := 0x00, sp := 0xCFFE } [(0xCFFE, 0x03), (0xCFFF, 0x80), (0x0100, 0xC8)])
        (fun t => (t.pc, t.f, t.stepCycles, t.busAccesses)) =
      some (0x0101, 0x00, 2, [.read 0x0100 0xC8]) := by decide

/-- 95_test_vectors.md, vector V821. -/
theorem test_ret_nc_not_taken :
    stepTo (withCells { bench with f := 0x10, sp := 0xCFFE } [(0xCFFE, 0x03), (0xCFFF, 0x80), (0x0100, 0xD0)])
        (fun t => (t.pc, t.f, t.stepCycles, t.busAccesses)) =
      some (0x0101, 0x10, 2, [.read 0x0100 0xD0]) := by decide

/-- 95_test_vectors.md, vector V822. -/
theorem test_ret_c_taken :
    stepTo (withCells { bench with f := 0x10, sp := 0xCFFE } [(0xCFFE, 0x03), (0xCFFF, 0x80), (0x0100, 0xD8)])
        (fun t => (t.sp, t.pc, t.f, t.stepCycles, t.busAccesses)) =
      some (0xD000, 0x8003, 0x10, 5, [.read 0x0100 0xD8, .read 0xCFFE 0x03, .read 0xCFFF 0x80]) := by decide

/-- 95_test_vectors.md, vector V824. -/
theorem test_reti :
    stepTo (withCells { bench with sp := 0xCFFE } [(0xCFFE, 0x03), (0xCFFF, 0x80), (0x0100, 0xD9)])
        (fun t => (t.sp, t.pc, t.ime, t.stepCycles, t.busAccesses)) =
      some (0xD000, 0x8003, true, 4, [.read 0x0100 0xD9, .read 0xCFFE 0x03, .read 0xCFFF 0x80, .read 0xFFFF 0x00, .read 0xFF0F 0x00]) := by decide

/-- 95_test_vectors.md, vector V830. -/
theorem test_halt_bug :
    stepTo (withCells { bench with ime := false } [(0xFF0F, 0x10), (0xFFFF, 0x00), (0x0100, 0x76)])
        (fun t => (t.pc, t.haltBug, t.stepCycles, t.busAccesses)) =
      some (0x0101, true, 1, [.read 0x0100 0x76, .read 0xFF0F 0x10]) := by decide

/-- 95_test_vectors.md, vector V831. -/
theorem test_halt_ignores_high_requests :
    stepTo (withCells { bench with ime := false } [(0xFF0F, 0xE0), (0xFFFF, 0xFF), (0x0100, 0x76)])
        (fun t => (t.pc, t.runState, t.stepCycles, t.busAccesses)) =
      some (0x0101, .halted, 1, [.read 0x0100 0x76, .read 0xFF0F 0xE0]) := by decide

/-- 95_test_vectors.md, vector V833. -/
theorem test_stop_enters_stopped :
    stepTo (withCells { bench with f := 0xF0 } [(0x0100, 0x10), (0x0101, 0x00)])
        (fun t => (t.pc, t.runState, t.f, t.stepCycles, t.busAccesses)) =
      some (0x0102, .stopped, 0xF0, 1, [.read 0x0100 0x10, .read 0x0101 0x00]) := by decide

/-- 95_test_vectors.md, vector V836. -/
theorem test_di :
    stepTo (withCells { bench with ime := true } [(0x0100, 0xF3)])
        (fun t => (t.pc, t.ime, t.stepCycles, t.busAccesses)) =
      some (0x0101, false, 1, [.read 0x0100 0xF3]) := by decide

/-- 95_test_vectors.md, vector V843. -/
theorem test_ei_is_delayed :
    stepTo (withCells { bench with ime := true } [(0x0100, 0xFB)])
        (fun t => (t.pc, t.imeSched, t.stepCycles, t.busAccesses)) =
      some (0x0101, true, 1, [.read 0x0100 0xFB, .read 0xFFFF 0x00, .read 0xFF0F 0x00]) := by decide

/-- 95_test_vectors.md, vector V845. -/
theorem test_halt_bug_fetches_twice :
    stepTo (withCells { bench with pc := 0x0101, haltBug := true } [(0x0101, 0x3E), (0x0102, 0x14)])
        (fun t => (t.a, t.pc, t.haltBug, t.stepCycles, t.busAccesses)) =
      some (0x3E, 0x0102, false, 2, [.read 0x0101 0x3E, .read 0x0101 0x3E]) := by decide

/-- 95_test_vectors.md, vector V849. -/
theorem test_illegal_opcode_latches :
    stepTo (withCells { bench with a := 0x12, f := 0xF0, ime := true, imeSched := true } [(0x0100, 0xD3)])
        (fun t => ((t.fault, t.f, t.a), t.pc, t.ime, t.busAccesses)) =
      some ((some 0x0100, 0xF0, 0x12), 0x0100, true, [.read 0x0100 0xD3]) := by decide

/-- 95_test_vectors.md, vector V865. -/
theorem test_dispatch_highest_priority :
    stepTo (withCells { bench with ime := true } [(0xFF0F, 0x1F), (0xFFFF, 0x1F), (0x0100, 0x00)])
        (fun t => (t.sp, t.pc, t.ime, t.stepCycles, t.busAccesses)) =
      some (0xFFFC, 0x0040, false, 6, [.read 0x0100 0x00, .read 0xFFFF 0x1F, .read 0xFF0F 0x1F, .write 0xFF0F 0x1E, .write 0xFFFD 0x01, .write 0xFFFC 0x01]) := by decide

/-- 95_test_vectors.md, vector V866. -/
theorem test_dispatch_next_priority :
    stepTo (withCells { bench with ime := true } [(0xFF0F, 0x1F), (0xFFFF, 0x1E), (0x0100, 0x00)])
        (fun t => (t.sp, t.pc, t.ime, t.stepCycles, t.busAccesses)) =
      some (0xFFFC, 0x0048, false, 6, [.read 0x0100 0x00, .read 0xFFFF 0x1E, .read 0xFF0F 0x1F, .write 0xFF0F 0x1D, .write 0xFFFD 0x01, .write 0xFFFC 0x01]) := by decide

/-- 95_test_vectors.md, vector V871. -/
theorem test_dispatch_clears_one_bit :
    stepTo (withCells { bench with ime := true } [(0xFF0F, 0xE5), (0xFFFF, 0xFF), (0x0100, 0x00)])
        (fun t => (t.sp, t.pc, t.ime, t.stepCycles, t.busAccesses)) =
      some (0xFFFC, 0x0040, false, 6, [.read 0x0100 0x00, .read 0xFFFF 0xFF, .read 0xFF0F 0xE5, .write 0xFF0F 0xE4, .write 0xFFFD 0x01, .write 0xFFFC 0x01]) := by decide

/-- 95_test_vectors.md, vector V876. -/
theorem test_halted_stays :
    stepTo (withCells { bench with pc := 0x0101, runState := .halted, ime := false } [(0xFF0F, 0x01), (0xFFFF, 0x00)])
        (fun t => (t.runState, t.stepCycles, t.busAccesses)) =
      some (.halted, 1, [.read 0xFFFF 0x00, .read 0xFF0F 0x01]) := by decide

/-- 95_test_vectors.md, vector V878. -/
theorem test_halted_wakes_and_dispatches :
    stepTo (withCells { bench with pc := 0x0101, runState := .halted, ime := true } [(0xFF0F, 0x04), (0xFFFF, 0x04)])
        (fun t => ((t.sp, t.pc, t.ime), t.runState, t.stepCycles, t.busAccesses)) =
      some ((0xFFFC, 0x0050, false), .running, 6, [.read 0xFFFF 0x04, .read 0xFF0F 0x04, .write 0xFF0F 0x00, .write 0xFFFD 0x01, .write 0xFFFC 0x01]) := by decide

/-- 95_test_vectors.md, vector V880. -/
theorem test_stopped_stays :
    stepTo (withCells { bench with pc := 0x0102, runState := .stopped, ime := true } [(0xFF0F, 0x1F), (0xFFFF, 0x1F)])
        (fun t => (t.runState, t.stepCycles, t.busAccesses)) =
      some (.stopped, 1, []) := by decide

/-- 95_test_vectors.md, vector V881. -/
theorem test_stopped_wakes :
    stepTo (withCells { bench with pc := 0x0102, runState := .stopped, ime := false, stopWake := [true] } [(0x0102, 0x3C)])
        (fun t => (t.runState, t.stepCycles, t.busAccesses)) =
      some (.running, 1, []) := by decide

/-- 95_test_vectors.md, vector V883. -/
theorem test_stopped_wakes_and_dispatches :
    stepTo (withCells { bench with pc := 0x0102, runState := .stopped, ime := true, stopWake := [true] } [(0xFF0F, 0x10), (0xFFFF, 0x10)])
        (fun t => ((t.sp, t.pc, t.ime), t.runState, t.stepCycles, t.busAccesses)) =
      some ((0xFFFC, 0x0060, false), .running, 6, [.read 0xFFFF 0x10, .read 0xFF0F 0x10, .write 0xFF0F 0x00, .write 0xFFFD 0x01, .write 0xFFFC 0x02]) := by decide

/-- 95_test_vectors.md, part 2, the operand tables. -/
theorem test_add_a_b :
    stepTo (withCells { bench with a := 0x3B, b := 0x2A, f := 0x10 } [(0x0100, 0x80)])
        (fun t => (t.a, t.f, t.pc, t.stepCycles, t.busAccesses)) =
      some (0x65, 0x20, 0x0101, 1, [.read 0x0100 0x80]) := by decide

/-- 95_test_vectors.md, part 2, the operand tables. -/
theorem test_inc_d_half_carry :
    stepTo (withCells { bench with d := 0x0F, f := 0x10 } [(0x0100, 0x14)])
        (fun t => (t.d, t.f, t.pc, t.stepCycles, t.busAccesses)) =
      some (0x10, 0x30, 0x0101, 1, [.read 0x0100 0x14]) := by decide

/-- 95_test_vectors.md, part 2, the operand tables. -/
theorem test_daa_after_subtraction :
    stepTo (withCells { bench with a := 0x0F, f := 0x50 } [(0x0100, 0x27)])
        (fun t => (t.a, t.f, t.pc, t.stepCycles, t.busAccesses)) =
      some (0xAF, 0x50, 0x0101, 1, [.read 0x0100 0x27]) := by decide

/-- 95_test_vectors.md, part 2, the operand tables. -/
theorem test_daa_after_addition :
    stepTo (withCells { bench with a := 0xFA, f := 0x10 } [(0x0100, 0x27)])
        (fun t => (t.a, t.f, t.pc, t.stepCycles, t.busAccesses)) =
      some (0x60, 0x10, 0x0101, 1, [.read 0x0100 0x27]) := by decide

/-- 95_test_vectors.md, part 2, the operand tables. -/
theorem test_rla :
    stepTo (withCells { bench with a := 0x80, f := 0x00 } [(0x0100, 0x17)])
        (fun t => (t.a, t.f, t.pc, t.stepCycles, t.busAccesses)) =
      some (0x00, 0x10, 0x0101, 1, [.read 0x0100 0x17]) := by decide

/-! ### Witnesses: states that meet the hypotheses of the statements, clause by clause -/

theorem reset_wf : Memory.wf State.reset.mem = true := by decide

theorem test_reset_meets_the_invariant : State.reset.Inv := by decide

/-- The invariant with the halt-bug latch set. -/
theorem test_invariant_in_the_halt_bug : State.Inv { State.reset with haltBug := true } := by decide

/-- The invariant with the illegal-opcode latch set. -/
theorem test_invariant_when_faulted : State.Inv { State.reset with fault := some 0x0100 } := by decide

/-- A memory that is not canonical. -/
theorem test_wf_refuses_an_unlisted_value : Memory.wf [(0xC000, 0x00)] = false := by decide

theorem test_wf_refuses_a_repeat : Memory.wf [(0xC000, 0x01), (0xC000, 0x02)] = false := by decide

/-- PopReturnsWhatPushStored, ReturnResumesAfterCall: the store answers, its form is canonical, also where the stack wraps. -/
theorem test_witness_stack :
    let s : State := withCells { bench with sp := 0x0001 } [(0x0000, 0x11)]
    s.busAnswers = [] ∧ Memory.wf s.mem = true ∧ (s.push16 0xABCD).pop16.1 = 0xABCD ∧ (s.push16 0xABCD).sp = 0xFFFF := by
  decide

/-- RotateAccumulator: the listed pairs. -/
theorem test_witness_rotate_accumulator : (RotOp.rr, Instr.rra) ∈
    [(RotOp.rlc, Instr.rlca), (.rrc, .rrca), (.rl, .rla), (.rr, .rra)] := by decide

/-- HaltOrHaltBug: with IME set HALT makes no access. -/
theorem test_halt_with_ime :
    stepTo (withCells { bench with ime := true } [(0x0100, 0x76)]) (fun t => (t.runState, t.haltBug)) = some (.halted, false) := by
  decide

/-- HaltOrHaltBug: with the gate, an enabled request sets the latch. -/
theorem test_halt_bug_gated :
    stepTo (withCells { bench with config := { haltBugIeGated := true } } [(0x0100, 0x76), (0xFF0F, 0x10), (0xFFFF, 0x10)])
      (fun t => (t.runState, t.haltBug)) = some (.running, true) := by
  decide

/-- IllegalOpcodeStopsForGood, first clause. -/
theorem test_witness_illegal_bytes : (0xD3 : Byte) ∈ illegalBytes ∧ (0xFD : Byte) ∈ illegalBytes := by decide

/-- IllegalOpcodeStopsForGood, second clause. -/
theorem test_witness_illegal_step :
    let s := withCells bench [(0x0100, 0xFD)]
    s.fault = none ∧ s.runState = .running ∧ s.busValue s.pc ∈ illegalBytes := by decide

/-- IllegalOpcodeStopsForGood, third clause: the Step after the latch. -/
theorem test_faulted_step : step { bench with fault := some 0x0100 } = .fault (.illegalOpcode 0x0100) := rfl

/-- A state no Step leaves behind: a Step in it answers a fault. -/
theorem test_dispatch_run_state : step { bench with runState := .interruptDispatch } = .fault .dispatchInProgress := rfl

/-- StepRunsDecodedInstruction: a three-byte instruction that wraps past 0xFFFF. -/
theorem test_witness_step_runs :
    let s := withCells { bench with pc := 0xFFFE } [(0xFFFE, 0xC3), (0xFFFF, 0x00), (0x0000, 0x80)]
    s.fault = none ∧ s.runState = .running ∧ s.busAnswers = []
      ∧ decode (s.fetchAddrs.map fun addr => Memory.read s.mem addr.toNat) = .ok (.jpNn 0x8000) []
      ∧ (Instr.jpNn 0x8000).isIllegal = false := by decide

/-- StepRunsDecodedInstruction: with the halt-bug latch the first byte is fetched twice. -/
theorem test_witness_step_runs_in_the_halt_bug :
    let s := withCells { bench with haltBug := true } [(0x0100, 0x3E), (0x0101, 0x14)]
    s.fault = none ∧ s.runState = .running ∧ s.busAnswers = []
      ∧ decode (s.fetchAddrs.map fun addr => Memory.read s.mem addr.toNat) = .ok (.ldAN 0x3E) [0x14]
      ∧ (Instr.ldAN 0x3E).isIllegal = false := by decide

/-- StepRunsDecodedInstruction, first clause: the environment answers the fetch and the promoted EI latch is in force. -/
theorem test_witness_step_runs_what_the_environment_answers :
    let s : State := withCells { bench with imeSched := true, busAnswers := [some 0x3E, none, some 0x01] } [(0x0101, 0x77)]
    s.fault = none ∧ s.runState = .running ∧ s.beginStep.promote.fetchInstr.1 = .ldAN 0x77
      ∧ (Instr.ldAN 0x77).isIllegal = false := by decide

/-- A request that a device raises in IF during the Step is taken after its instruction (R310, R315). -/
theorem test_request_from_the_environment :
    stepTo (withCells { bench with ime := true, busAnswers := [none, none, some 0x04] } [(0x0100, 0x3C), (0xFFFF, 0x04)])
        (fun t => ((t.a, t.pc, t.ime), t.stepCycles, t.cycleCount, t.busAccesses)) =
      some ((0x01, 0x0050, false), 6, 6, [.read 0x0100 0x3C, .read 0xFFFF 0x04, .read 0xFF0F 0x04, .write 0xFF0F 0x00,
        .write 0xFFFD 0x01, .write 0xFFFC 0x01]) := by decide

/-- PREFIX CB as an instruction of its own: the second byte is fetched and run. -/
theorem test_prefix_runs_the_second_byte :
    (match exec .prefixCb (withCells { bench with c := 0xA5 } [(0x0100, 0x31)]) with
      | .next t => (t.c, t.pc)
      | _ => (0, 0)) = (0x5A, 0x0101) := by decide

/-- EiDelaysByOneInstruction: the store answers the fetch, and the instruction after is no illegal opcode. -/
theorem test_witness_ei :
    let s := withCells bench [(0x0100, 0xFB), (0x0101, 0x3C)]
    s.fault = none ∧ s.runState = .running ∧ s.ime = false ∧ s.imeSched = false ∧ s.busValue s.pc = 0xFB
      ∧ stepTo s (fun t => (t.beginStep.promote.fetchInstr.1, Instr.incA.isIllegal)) = some (.incA, false) := by decide

/-- EiDelaysByOneInstruction: under the halt bug, the environment answering the fetch; the byte at the kept PC is run next. -/
theorem test_witness_ei_in_the_halt_bug :
    let s : State := withCells { bench with haltBug := true, busAnswers := [some 0xFB] } [(0x0100, 0x3C)]
    s.fault = none ∧ s.runState = .running ∧ s.ime = false ∧ s.imeSched = false ∧ s.busValue s.pc = 0xFB
      ∧ stepTo s (fun t => (t.pc, t.haltBug, t.beginStep.promote.fetchInstr.1)) = some (0x0100, false, .incA) := by decide

/-- HaltedStep, first clause: no request, and a request that finds IME clear. -/
theorem test_witness_halted_no_dispatch :
    (let s : State := { bench with runState := .halted, ime := true }
     s.fault = none ∧ s.busValue ieAddr &&& (s.busRead ieAddr).busValue ifAddr &&& 0x1F = 0) ∧
    (let s : State := withCells { bench with runState := .halted } [(0xFF0F, 0x10), (0xFFFF, 0x10)]
     s.fault = none ∧ s.ime = false ∧ s.busValue ieAddr &&& (s.busRead ieAddr).busValue ifAddr &&& 0x1F ≠ 0) := by decide

/-- HaltedStep, second clause; InterruptPhaseSelects for a sample: the lowest and the highest source. -/
theorem test_witness_halted_dispatch :
    (let s : State := withCells { bench with runState := .halted, ime := true } [(0xFF0F, 0x1F), (0xFFFF, 0xFF)]
     s.fault = none ∧ s.ime = true
      ∧ LeastSetBit (s.busValue ieAddr &&& (s.busRead ieAddr).busValue ifAddr &&& 0x1F) IntSource.vBlank.bit) ∧
    (let s : State := withCells { bench with runState := .halted, ime := true } [(0xFF0F, 0xF0), (0xFFFF, 0x1F)]
     s.fault = none ∧ s.ime = true
      ∧ LeastSetBit (s.busValue ieAddr &&& (s.busRead ieAddr).busValue ifAddr &&& 0x1F) IntSource.joypad.bit) := by
  unfold LeastSetBit
  decide

/-- StoppedStep: the wake input false, true with IME clear, true with IME set and no request. -/
theorem test_witness_stopped :
    (let s : State := { bench with runState := .stopped }
     s.fault = none ∧ s.wakeInput = false) ∧
    (let s : State := { bench with runState := .stopped, stopWake := [true] }
     s.fault = none ∧ s.wakeInput = true ∧ s.ime = false) ∧
    (let s : State := { bench with runState := .stopped, stopWake := [true], ime := true }
     s.fault = none ∧ s.wakeInput = true ∧ s.ime = true
      ∧ s.busValue ieAddr &&& (s.busRead ieAddr).busValue ifAddr &&& 0x1F = 0) := by decide

/-- StoppedStep: the wake input true with IME set and a request. -/
theorem test_witness_stopped_dispatch :
    let s : State := withCells { bench with runState := .stopped, stopWake := [true], ime := true } [(0xFF0F, 0x08), (0xFFFF, 0x1F)]
    s.fault = none ∧ s.wakeInput = true ∧ s.ime = true
      ∧ LeastSetBit (s.busValue ieAddr &&& (s.busRead ieAddr).busValue ifAddr &&& 0x1F) IntSource.serial.bit := by
  unfold LeastSetBit
  decide

/-- InterruptPhaseSelects: masked, stopped, no request. -/
theorem test_witness_phase :
    bench.ime = false ∧ ({ bench with runState := .stopped } : State).runState = .stopped ∧
    (let s : State := withCells { bench with ime := true } [(0xFF0F, 0xE0), (0xFFFF, 0xFF)]
     s.runState ≠ .stopped ∧ s.ime = true ∧ s.busValue ieAddr &&& (s.busRead ieAddr).busValue ifAddr &&& 0x1F = 0) := by
  decide

/-- InterruptPhaseSelects: a request in the middle of the order. -/
theorem test_witness_phase_dispatch :
    (let s : State := withCells { bench with ime := true } [(0xFF0F, 0x14), (0xFFFF, 0x1C)]
     s.runState ≠ .stopped ∧ s.ime = true
      ∧ LeastSetBit (s.busValue ieAddr &&& (s.busRead ieAddr).busValue ifAddr &&& 0x1F) IntSource.timer.bit) ∧
    LeastSetBit ((0x02 : Byte) &&& 0xFF &&& 0x1F) IntSource.lcdStat.bit ∧ (0xF0 : Byte) &&& 0x1F ≠ 0 := by
  unfold LeastSetBit
  decide

/-- DispatchTakesTheInterrupt: an address apart from the stored ones, and canonical memory. -/
theorem test_witness_dispatch_frame :
    Memory.wf bench.mem = true ∧ (0xC000 : Word) ≠ ifAddr ∧ (0xC000 : Word) ≠ bench.sp - 1 ∧ (0xC000 : Word) ≠ bench.sp - 2 := by
  decide

/-- StepKeepsTheInvariant, StoresAreExactlyTheLoggedWrites, RunStateTransitions, StepReturnsOneToElevenCycles: a Step from reset
answers a next state, and the parameters have their default counts. -/
theorem test_witness_step_from_reset :
    (∃ t, step State.reset = .next t) ∧ State.reset.fault = none ∧ State.reset.config.stopCycles = 1
      ∧ State.reset.config.stopStepCycles = 1 ∧ State.reset.config.intDispatchCycles = 5
      ∧ stepTo State.reset (fun t => (t.fault, t.stepCycles)) = some (none, 1) :=
  ⟨exists_of_isNext (by decide), by decide⟩

/-- StoresAreExactlyTheLoggedWrites: a Step that stores to one address and to no other. -/
theorem test_witness_logged_writes :
    stepTo (withCells { bench with a := 0x5A } [(0x0100, 0x02)])
      (fun t => (Memory.read t.mem 0x0000, Memory.read t.mem 0x0001, t.busAccesses)) =
      some (0x5A, 0x00, [.read 0x0100 0x02, .write 0x0000 0x5A]) := by decide

/-- StepAsksOnlyTheBus: eight answered reads. -/
theorem test_witness_answered :
    let s : State := { bench with busAnswers := List.replicate 8 (some 0x00) }
    8 ≤ s.busAnswers.length ∧ ∀ x ∈ s.busAnswers, x.isSome = true :=
  ⟨Nat.le_refl 8, by simp⟩

/-- An answer of the environment goes before the store. -/
theorem test_environment_answers :
    stepTo (withCells { bench with busAnswers := [some 0x3C] } [(0x0100, 0x00)]) (fun t => (t.a, t.busAnswers)) = some (0x01, []) := by
  decide

/-- ControlStateWriters: an instruction that writes none of them. -/
theorem test_witness_control_writers :
    Instr.nop ≠ .di ∧ Instr.nop ≠ .reti ∧ Instr.nop ≠ .ei ∧ Instr.nop ≠ .halt ∧ (∀ n, Instr.nop ≠ .stop n)
      ∧ Instr.nop.isIllegal = false :=
  ⟨by decide, by decide, by decide, by decide, by simp, by decide⟩

/-- RunStateTransitions: a stopped, a halted and a running state whose Step answers a next state. -/
theorem test_witness_transitions :
    (∃ t, step { bench with runState := .stopped } = .next t) ∧ (∃ t, step { bench with runState := .halted } = .next t)
      ∧ (∃ t, step bench = .next t) :=
  ⟨exists_of_isNext (by decide), exists_of_isNext (by decide), exists_of_isNext (by decide)⟩

/-- CyclesAreTheDescriptors: an instruction without and one with a condition. -/
theorem test_witness_cycles :
    Instr.callNn 0x0000 ≠ .prefixCb ∧ (∀ n, Instr.callNn 0x0000 ≠ .stop n) ∧ (Instr.callNn 0x0000).isIllegal = false
      ∧ (Instr.jrCE 0x00).condition = some .c ∧ (Instr.jrCE 0x00).isIllegal = false :=
  ⟨by decide, by simp, by decide, by decide, by decide⟩

/-- DecodeOfEncodeIsTheInstruction: the two constructors its hypotheses speak of. -/
theorem test_witness_round_trip :
    (Instr.illegal 0xFD).WellFormed ∧ Instr.prefixCb.WellFormed ∧ decode (encode .prefixCb ++ []) = .ok .prefixCb [] := by decide

/-- ResetStateMeetsTheInvariant: reset in the other mode, from a state with memory. -/
theorem test_power_on :
    let s := withCells bench [(0xC000, 0x5A)]
    Memory.wf s.mem = true ∧ (s.resetCore .powerOn).pc = 0x0000 ∧ (s.resetCore .powerOn).mem = s.mem := by decide

end Sys2Proof.Tests
end

section
/-! What every operation, instruction and Step can do to the state, and the statements of 10_state.md. -/

namespace Sys2Proof.Machine

/-! ### Updates of the data state

The registers, `PC`, `SP`, the flags, the bus and the reported duration are written by a few operations only; a meaning that
uses nothing else leaves the control state alone. -/

/-- The states that updates of registers, `F`, `SP`, `PC`, the bus and the reported duration lead to from `s`. -/
inductive DataUpdates (s : State) : State → Prop
  | refl : DataUpdates s s
  | busRead {t} (h : DataUpdates s t) (addr : Word) : DataUpdates s (t.busRead addr)
  | busWrite {t} (h : DataUpdates s t) (addr : Word) (v : Byte) : DataUpdates s (t.busWrite addr v)
  | setReg {t} (h : DataUpdates s t) (r : Reg8) (v : Byte) : DataUpdates s (t.setReg r v)
  | setFlags {t} (h : DataUpdates s t) (z n x c : Bool) : DataUpdates s (t.setFlags z n x c)
  | writeF {t} (h : DataUpdates s t) (v : Byte) : DataUpdates s (t.writeF v)
  | setSp {t} (h : DataUpdates s t) (w : Word) : DataUpdates s (t.setSp w)
  | setPc {t} (h : DataUpdates s t) (w : Word) : DataUpdates s (t.setPc w)
  | setCycles {t} (h : DataUpdates s t) (n : Nat) : DataUpdates s (t.setCycles n)

namespace DataUpdates

variable {s t : State}

theorem setHl (h : DataUpdates s t) (w : Word) : DataUpdates s (t.setHl w) :=
  (h.setReg .h (hi8 w)).setReg .l (lo8 w)

theorem setPair (h : DataUpdates s t) (p : Pair16) (w : Word) : DataUpdates s (t.setPair p w) := by
  cases p with
  | bc => exact (h.setReg .b (hi8 w)).setReg .c (lo8 w)
  | de => exact (h.setReg .d (hi8 w)).setReg .e (lo8 w)
  | hl => exact (h.setReg .h (hi8 w)).setReg .l (lo8 w)
  | sp => exact h.setSp w

theorem setStackPair (h : DataUpdates s t) (p : StackPair) (w : Word) : DataUpdates s (t.setStackPair p w) := by
  cases p with
  | bc => exact (h.setReg .b (hi8 w)).setReg .c (lo8 w)
  | de => exact (h.setReg .d (hi8 w)).setReg .e (lo8 w)
  | hl => exact (h.setReg .h (hi8 w)).setReg .l (lo8 w)
  | af => exact (h.setReg .a (hi8 w)).writeF (lo8 w)

theorem push16 (h : DataUpdates s t) (w : Word) : DataUpdates s (t.push16 w) :=
  (((h.setSp _).busWrite _ _).setSp _).busWrite _ _

theorem pop16 (h : DataUpdates s t) : DataUpdates s t.pop16.2 :=
  (((h.busRead _).setSp _).busRead _).setSp _

theorem fetch8 (h : DataUpdates s t) : DataUpdates s t.fetch8.2 :=
  (h.busRead _).setPc _

theorem aluApply (h : DataUpdates s t) (op : AluOp) (v : Byte) : DataUpdates s (Machine.aluApply op v t) := by
  cases op with
  | cp => exact h.setFlags _ _ _ _
  | add | adc | sub | sbc | and | xor | or => exact (h.setReg _ _).setFlags _ _ _ _

theorem keepsControl (h : DataUpdates s t) : KeepsControl s t := by
  induction h with
  | refl => exact ⟨rfl, rfl, rfl, rfl, rfl, rfl, rfl, rfl⟩
  | setReg _ r v ih =>
    obtain ⟨ime, imeSched, haltBug, runState, cycleCount, fault, stopWake, config⟩ := ih
    constructor <;> simpa
  | busRead _ _ ih | busWrite _ _ _ ih | setFlags _ _ _ _ _ ih | writeF _ _ ih | setSp _ _ ih | setPc _ _ ih
  | setCycles _ _ ih =>
    exact ⟨ih.ime, ih.imeSched, ih.haltBug, ih.runState, ih.cycleCount, ih.fault, ih.stopWake, ih.config⟩

theorem lowNibble (h : DataUpdates s t) (hf : s.f &&& 0x0F = 0) : t.f &&& 0x0F = 0 := by
  induction h with
  | refl => exact hf
  | setReg _ _ _ ih => rwa [State.setReg_f]
  | setFlags => exact packFlags_low _ _ _ _
  | writeF => exact highNibble_low _
  | busRead _ _ ih | busWrite _ _ _ ih | setSp _ _ ih | setPc _ _ ih | setCycles _ _ ih => exact ih

theorem memory_wf (h : DataUpdates s t) (hm : Memory.wf s.mem = true) : Memory.wf t.mem = true := by
  induction h with
  | refl => exact hm
  | busWrite _ addr v ih => exact Memory.wf_write addr v ih
  | setReg _ _ _ ih => rwa [State.setReg_mem]
  | busRead _ _ ih | setFlags _ _ _ _ _ ih | writeF _ _ ih | setSp _ _ ih | setPc _ _ ih | setCycles _ _ ih => exact ih

end DataUpdates

/-! ### What an instruction can do -/

/-- What an instruction can do to a state: it updates data, or it is one of the six kinds that write the
control state. -/
inductive Effect (s : State) : Instr → State → Prop
  | data {i t} (h : DataUpdates s t) : Effect s i t
  | di : Effect s .di (s.disableInterrupts.setCycles 1)
  | ei : Effect s .ei (State.setCycles { s with imeSched := true } 1)
  | reti : Effect s .reti (s.returnFromInterrupt.setCycles 4)
  | halted {t} (h : DataUpdates s t) : Effect s .halt ((t.setRunState .halted).setCycles 1)
  | haltBug {t} (hime : s.ime = false) (h : DataUpdates s t) : Effect s .halt ((t.setHaltBug true).setCycles 1)
  | stop (n : Byte) : Effect s (.stop n) ((s.setRunState .stopped).setCycles s.config.stopCycles)
  | illegal (op : Byte) : Effect s (.illegal op) s.raiseIllegal

/-- A CB instruction updates data only, also after earlier updates. -/
theorem runCb_data {s u : State} (op2 : Byte) (h : DataUpdates s u) : ∃ t, runCb op2 u = .next t ∧ DataUpdates s t := by
  unfold runCb
  dsimp only
  split
  · exact ⟨_, rfl, ((h.setReg _ _).setFlags _ _ _ _).setCycles _⟩
  · exact ⟨_, rfl, (((h.busRead _).busWrite _ _).setFlags _ _ _ _).setCycles _⟩
  · exact ⟨_, rfl, (h.setFlags _ _ _ _).setCycles _⟩
  · exact ⟨_, rfl, ((h.busRead _).setFlags _ _ _ _).setCycles _⟩
  · exact ⟨_, rfl, (h.setReg _ _).setCycles _⟩
  · exact ⟨_, rfl, ((h.busRead _).busWrite _ _).setCycles _⟩
  · exact ⟨_, rfl, (h.setReg _ _).setCycles _⟩
  · exact ⟨_, rfl, ((h.busRead _).busWrite _ _).setCycles _⟩

theorem AluOperand.after_data (s : State) (x : AluOperand) : DataUpdates s (x.after s) := by
  cases x with
  | reg | imm => exact .refl
  | atHl => exact .busRead .refl _

theorem haltSample_data (s : State) : DataUpdates s (haltSample s).2 := by
  unfold haltSample
  split
  · exact .busRead (.busRead .refl _) _
  · exact .busRead .refl _

/-- `HALT` halts, or it sets the halt-bug latch, and then `IME` is clear (46_cpu_control.md R291). -/
theorem halt_effect (s : State) : ∃ t, halt s = .next t ∧ Effect s .halt t := by
  unfold halt
  split
  · exact ⟨_, rfl, .halted .refl⟩
  · next hime =>
    dsimp only
    split
    · exact ⟨_, rfl, .halted (haltSample_data s)⟩
    · exact ⟨_, rfl, .haltBug (by simpa using hime) (haltSample_data s)⟩

/-- A choice between two meanings that complete completes. -/
theorem ite_completes {P : State → Prop} {x y : Host.Outcome State Fault Refusal} (c : Bool)
    (hx : ∃ t, x = .next t ∧ P t) (hy : ∃ t, y = .next t ∧ P t) : ∃ t, (if c then x else y) = .next t ∧ P t := by
  cases c with
  | true => exact hx
  | false => exact hy

/-- Every form completes, with an effect of its instruction. -/
theorem Form.run_effect (f : Form) (s : State) : ∃ t, f.run s = .next t ∧ Effect s f.instr t := by
  have h : DataUpdates s s := .refl
  cases f with
  | nop => exact ⟨_, rfl, .data (h.setCycles _)⟩
  | ldRegReg | ldRegImm | resReg | setReg => exact ⟨_, rfl, .data ((h.setReg _ _).setCycles _)⟩
  | ldRegAtHl | loadA => exact ⟨_, rfl, .data (((h.busRead _).setReg _ _).setCycles _)⟩
  | ldAtHlReg | ldAtHlImm | storeA => exact ⟨_, rfl, .data ((h.busWrite _ _).setCycles _)⟩
  | loadInc | loadDec => exact ⟨_, rfl, .data ((((h.busRead _).setReg _ _).setHl _).setCycles _)⟩
  | storeInc | storeDec => exact ⟨_, rfl, .data (((h.busWrite _ _).setHl _).setCycles _)⟩
  | ldPairImm | incPair | decPair => exact ⟨_, rfl, .data ((h.setPair _ _).setCycles _)⟩
  | ldAtNnSp => exact ⟨_, rfl, .data (((h.busWrite _ _).busWrite _ _).setCycles _)⟩
  | ldSpHl => exact ⟨_, rfl, .data ((h.setSp _).setCycles _)⟩
  | ldHlSpE | addHlPair => exact ⟨_, rfl, .data (((h.setHl _).setFlags _ _ _ _).setCycles _)⟩
  | addSpE => exact ⟨_, rfl, .data (((h.setSp _).setFlags _ _ _ _).setCycles _)⟩
  | push => exact ⟨_, rfl, .data ((h.push16 _).setCycles _)⟩
  | pop => exact ⟨_, rfl, .data ((h.pop16.setStackPair _ _).setCycles _)⟩
  | alu op x => exact ⟨_, rfl, .data (((x.after_data s).aluApply _ _).setCycles _)⟩
  | incReg | decReg | daa | cpl | rlca | rrca | rla | rra | rotReg =>
    exact ⟨_, rfl, .data (((h.setReg _ _).setFlags _ _ _ _).setCycles _)⟩
  | incAtHl | decAtHl | rotAtHl =>
    exact ⟨_, rfl, .data ((((h.busRead _).busWrite _ _).setFlags _ _ _ _).setCycles _)⟩
  | scf | ccf | bitReg => exact ⟨_, rfl, .data ((h.setFlags _ _ _ _).setCycles _)⟩
  | bitAtHl => exact ⟨_, rfl, .data (((h.busRead _).setFlags _ _ _ _).setCycles _)⟩
  | resAtHl | setAtHl => exact ⟨_, rfl, .data (((h.busRead _).busWrite _ _).setCycles _)⟩
  | jp | jpHl | jr => exact ⟨_, rfl, .data ((h.setPc _).setCycles _)⟩
  | jpCond cc | jrCond cc =>
    exact ite_completes (s.cond cc) ⟨_, rfl, .data ((h.setPc _).setCycles _)⟩ ⟨_, rfl, .data (h.setCycles _)⟩
  | call | rst => exact ⟨_, rfl, .data (((h.push16 _).setPc _).setCycles _)⟩
  | callCond cc =>
    exact ite_completes (s.cond cc) ⟨_, rfl, .data (((h.push16 _).setPc _).setCycles _)⟩
      ⟨_, rfl, .data (h.setCycles _)⟩
  | ret => exact ⟨_, rfl, .data ((h.pop16.setPc _).setCycles _)⟩
  | retCond cc =>
    exact ite_completes (s.cond cc) ⟨_, rfl, .data ((h.pop16.setPc _).setCycles _)⟩ ⟨_, rfl, .data (h.setCycles _)⟩
  | reti => exact ⟨_, rfl, .reti⟩
  | di => exact ⟨_, rfl, .di⟩
  | ei => exact ⟨_, rfl, .ei⟩
  | halt => exact halt_effect s
  | stop n => exact ⟨_, rfl, .stop n⟩
  | illegal op => exact ⟨_, rfl, .illegal op⟩
  | prefixCb =>
    obtain ⟨t, hrun, ht⟩ := runCb_data s.fetch8.1 h.fetch8
    exact ⟨t, hrun, .data ht⟩

/-- Every instruction completes, with an effect of its own. -/
theorem exec_effect (i : Instr) (s : State) : ∃ t, exec i s = .next t ∧ Effect s i t := by
  obtain ⟨f, rfl⟩ := exists_form i
  rw [exec_form]
  exact f.run_effect s

/-! ### The invariant through the parts of a Step -/

/-- With both latches clear and no fault, the invariant asks for memory, the low nibble of `F` and the run state only. -/
theorem inv_of_latches_clear {s : State} (hmem : Memory.wf s.mem = true) (hlow : s.f &&& 0x0F = 0)
    (hrun : s.runState ≠ .interruptDispatch) (hbug : s.haltBug = false) (hsched : s.imeSched = false)
    (hfault : s.fault = none) : s.Inv :=
  ⟨hmem, hlow, hrun, by simp [hbug], by simp [hsched], .inl hfault⟩

/-- With both latches clear and no fault, the core may run, halt or stop. -/
theorem setRunState_inv {s : State} (hs : s.Inv) (hbug : s.haltBug = false) (hsched : s.imeSched = false)
    (hfault : s.fault = none) {r : RunState} (hr : r ≠ .interruptDispatch) : (s.setRunState r).Inv := by
  obtain ⟨hmem, hlow, -⟩ := hs
  exact inv_of_latches_clear hmem hlow hr hbug hsched hfault

/-- Updates of data keep the invariant where no fault is latched (a latched fault names `PC`). -/
theorem DataUpdates.inv {s t : State} (h : DataUpdates s t) (hfault : s.fault = none) (hs : s.Inv) : t.Inv := by
  obtain ⟨hmem, hlow, hrun, hbug, hsched, -⟩ := hs
  have hk := h.keepsControl
  refine ⟨h.memory_wf hmem, h.lowNibble hlow, ?_, ?_, ?_, .inl (hk.fault.trans hfault)⟩
  · rwa [hk.runState]
  · rwa [hk.haltBug, hk.runState, hk.ime, hk.imeSched]
  · rwa [hk.imeSched, hk.runState]

/-- An instruction other than an illegal opcode, in a running core with both latches clear and no fault, keeps the invariant
and latches no fault. -/
theorem Effect.inv {s t : State} {i : Instr} (h : Effect s i t) (hi : i.isIllegal = false) (hs : s.Inv)
    (hrun : s.runState = .running) (hbug : s.haltBug = false) (hsched : s.imeSched = false) (hfault : s.fault = none) :
    t.Inv ∧ t.fault = none := by
  have ⟨hmem, hlow, _⟩ := hs
  cases h with
  | data h => exact ⟨h.inv hfault hs, h.keepsControl.fault.trans hfault⟩
  | di => exact ⟨inv_of_latches_clear hmem hlow (by simp [hrun]) hbug rfl hfault, hfault⟩
  | ei => exact ⟨⟨hmem, hlow, by simp [hrun], by simp [hbug], fun _ => hrun, .inl hfault⟩, hfault⟩
  | reti =>
    have hpop : DataUpdates s s.pop16.2 := .pop16 .refl
    have hk := hpop.keepsControl
    have hnone := hk.fault.trans hfault
    exact ⟨inv_of_latches_clear (hpop.memory_wf hmem) (hpop.lowNibble hlow) (by simp [State.returnFromInterrupt, hrun])
      (hk.haltBug.trans hbug) (hk.imeSched.trans hsched) hnone, hnone⟩
  | halted h =>
    have hk := h.keepsControl
    have hnone := hk.fault.trans hfault
    exact ⟨setRunState_inv (h.inv hfault hs) (hk.haltBug.trans hbug) (hk.imeSched.trans hsched) hnone
      (r := .halted) (by decide), hnone⟩
  | haltBug hime h =>
    have hk := h.keepsControl
    have hrun' := hk.runState.trans hrun
    have hnone := hk.fault.trans hfault
    exact ⟨⟨h.memory_wf hmem, h.lowNibble hlow, by simp [hrun'],
      fun _ => ⟨hrun', hk.ime.trans hime, hk.imeSched.trans hsched⟩, fun _ => hrun', .inl hnone⟩, hnone⟩
  | stop n => exact ⟨setRunState_inv hs hbug hsched hfault (r := .stopped) (by decide), hfault⟩
  | illegal op => cases hi

/-- The fetch of an instruction, in a running core without a fault, leaves the invariant with both latches clear. -/
theorem fetched_inv {s : State} (hs : s.Inv) (hrun : s.runState = .running) (hfault : s.fault = none) :
    s.promote.fetchInstr.2.Inv := by
  obtain ⟨hmem, hlow, -⟩ := hs
  exact inv_of_latches_clear (by simpa using hmem) (by simpa using hlow) (by simp [hrun]) (by simp) (by simp)
    (by simp [hfault])

theorem exec_illegal {i : Instr} (hi : i.isIllegal = true) (s : State) : exec i s = .next s.raiseIllegal := by
  unfold Instr.isIllegal at hi
  split at hi
  · rfl
  · cases hi

theorem raiseIllegal_inv {s : State} (hs : s.Inv) (hrun : s.runState = .running) : s.raiseIllegal.Inv := by
  obtain ⟨hmem, hlow, hne, hbug, hsched, -⟩ := hs
  exact ⟨hmem, hlow, hne, hbug, hsched, .inr ⟨rfl, hrun⟩⟩

/-- Taking an interrupt keeps the invariant: `IME` was set, so the halt-bug latch was clear. -/
theorem dispatch_inv {s : State} (hs : s.Inv) (hime : s.ime = true) (hfault : s.fault = none) (k : IntSource) (ifl : Byte) :
    (s.dispatch k ifl).Inv := by
  obtain ⟨hmem, hlow, -, hbug, -⟩ := hs
  have hclear : s.haltBug = false := by
    simpa [hime] using hbug
  have hwf : Memory.wf (s.dispatch k ifl).mem = true := by
    rw [State.dispatch_mem]
    exact Memory.wf_applyAll _ hmem
  exact inv_of_latches_clear hwf (by simpa using hlow) (by simp) (by simpa using hclear) (by simp) (by simpa using hfault)

/-- The interrupt phase keeps the invariant of a core without a fault. -/
theorem interruptPhase_inv {s : State} (hs : s.Inv) (hfault : s.fault = none) (sampled : Option (Byte × Byte)) :
    (s.interruptPhase sampled).Inv := by
  obtain ⟨-, heq⟩ | ⟨-, hime, ie, ifl, u, hu, hphase⟩ := interruptPhase_cases s sampled
  · rwa [heq]
  have hdata : DataUpdates s u := by
    obtain ⟨-, rfl⟩ | ⟨-, -, -, rfl⟩ := hu
    · exact .refl
    · exact .busRead (.busRead .refl _) _
  have hinv : u.Inv := hdata.inv hfault hs
  have hk := hdata.keepsControl
  obtain ⟨-, heq⟩ | ⟨k, -, heq⟩ := hphase
  · rwa [heq]
  · rw [heq]
    exact dispatch_inv hinv (hk.ime.trans hime) (hk.fault.trans hfault) k ifl

/-- The end of a Step keeps the invariant of a core without a fault. -/
theorem endStep_inv {s : State} (hs : s.Inv) (hfault : s.fault = none) (sampled : Option (Byte × Byte)) :
    (s.endStep sampled).Inv :=
  interruptPhase_inv hs hfault sampled

/-- A core that is not running has both latches clear. -/
theorem latches_clear_of_not_running {s : State} (hs : s.Inv) (hrun : s.runState ≠ .running) :
    s.haltBug = false ∧ s.imeSched = false := by
  obtain ⟨-, -, -, hbug, hsched, -⟩ := hs
  exact ⟨by simpa [hrun] using hbug, by simpa [hrun] using hsched⟩

theorem haltedArm_inv {s : State} (hs : s.Inv) (hrun : s.runState = .halted) (hfault : s.fault = none) :
    s.haltedArm.1.Inv ∧ s.haltedArm.1.fault = none := by
  obtain ⟨hbug, hsched⟩ := latches_clear_of_not_running hs (by simp [hrun])
  have hdata : DataUpdates s (s.sampleInterrupts.2.setCycles haltStepCycles) :=
    .setCycles (.busRead (.busRead .refl _) _) _
  have hinv := hdata.inv hfault hs
  have hk := hdata.keepsControl
  have hnone := hk.fault.trans hfault
  unfold State.haltedArm
  dsimp only
  split
  · exact ⟨hinv, hnone⟩
  · exact ⟨setRunState_inv hinv (hk.haltBug.trans hbug) (hk.imeSched.trans hsched) hnone (by decide), hnone⟩

theorem stoppedArm_inv {s : State} (hs : s.Inv) (hrun : s.runState = .stopped) (hfault : s.fault = none) (wake : Bool) :
    (s.stoppedArm wake).Inv ∧ (s.stoppedArm wake).fault = none := by
  obtain ⟨hbug, hsched⟩ := latches_clear_of_not_running hs (by simp [hrun])
  unfold State.stoppedArm
  dsimp only
  split
  · exact ⟨setRunState_inv (s := s.setCycles _) hs hbug hsched hfault (by decide), hfault⟩
  · exact ⟨hs, hfault⟩

/-- The Step of a running core keeps the invariant: it executes the fetched instruction, or it undoes the fetch and latches
the illegal opcode. -/
theorem runningStep_inv {s t : State} (hs : s.Inv) (hrun : s.runState = .running) (hfault : s.fault = none)
    (h : afterInstruction (instructionPhase s) = .next t) : t.Inv := by
  unfold instructionPhase at h
  dsimp only at h
  split at h
  · next hi =>
    rw [exec_illegal hi] at h
    obtain rfl : State.raiseIllegal (s.undo s.promote.fetchInstr.2) = t := by simpa [afterInstruction] using h
    exact raiseIllegal_inv (s := s.undo _) hs hrun
  · next hi =>
    obtain ⟨u, hexec, heffect⟩ := exec_effect s.promote.fetchInstr.1 s.promote.fetchInstr.2
    obtain ⟨hinv, hnone⟩ := heffect.inv (by simpa using hi) (fetched_inv hs hrun hfault) (by simp [hrun]) (by simp)
      (by simp) (by simp [hfault])
    obtain rfl : u.endStep none = t := by simpa [afterInstruction, hexec, hnone] using h
    exact endStep_inv hinv hnone none

/-- Settles O51, arm by arm: each arm keeps the invariant and latches no fault, or raises the illegal-opcode fault; then the
interrupt phase keeps it. -/
theorem stepKeepsTheInvariant : Obligations.StepKeepsTheInvariant := by
  intro s t hs hstep
  obtain ⟨hfault, ⟨hrun, h⟩ | ⟨hrun, rfl⟩ | ⟨hrun, rfl⟩⟩ := step_next_cases hstep
  · exact runningStep_inv (s := s.beginStep) hs hrun hfault h
  · obtain ⟨hinv, hnone⟩ := haltedArm_inv (s := s.beginStep) hs hrun hfault
    exact endStep_inv hinv hnone _
  · obtain ⟨hinv, hnone⟩ := stoppedArm_inv (s := s.beginStep) hs hrun hfault s.wakeInput
    exact endStep_inv hinv hnone none

/-- Settles O54: an instruction that updates data keeps the whole control state, and the six other kinds write only the parts
they are excepted for. -/
theorem controlStateWriters : Obligations.ControlStateWriters := by
  intro i s
  obtain ⟨t, hexec, heffect⟩ := exec_effect i s
  refine ⟨t, hexec, ?_⟩
  cases heffect with
  | data h =>
    have hk := h.keepsControl
    exact ⟨fun _ _ => hk.ime, fun _ _ => hk.imeSched, fun _ _ => hk.runState, fun _ => hk.haltBug, fun _ => hk.fault,
      hk.config, hk.cycleCount, hk.stopWake⟩
  | halted h | haltBug _ h =>
    have hk := h.keepsControl
    simp [hk.ime, hk.imeSched, hk.fault, hk.config, hk.cycleCount, hk.stopWake]
  | reti => simp [State.returnFromInterrupt]
  | di | ei | stop => simp
  | illegal => simp [Instr.isIllegal]

/-! ### Pairs and the bits of `F` -/

theorem readF_toNat (s : State) : s.readF.toNat = s.f.toNat / 16 * 16 := by
  have key : ∀ v : Byte, (v &&& 0xF0).toNat = v.toNat / 16 * 16 := by decide
  exact key s.f

/-- `F` is its four flags above its low nibble (R24). -/
theorem f_toNat (s : State) : s.f.toNat = flagsNat s.zf s.nf s.hf s.cy + s.f.toNat % 16 := by
  have key : ∀ v : Byte,
      v.toNat = flagsNat (v.getLsbD 7) (v.getLsbD 6) (v.getLsbD 5) (v.getLsbD 4) + v.toNat % 16 := by decide
  exact key s.f

/-- Settles O23: a pair is the two bytes of a word, and `F` is its flags and its low nibble. -/
theorem pairsAreHighRegisterFirst : Obligations.PairsAreHighRegisterFirst := by
  intro s w
  refine ⟨ofBytes_toNat _ _, ofBytes_toNat _ _, ofBytes_toNat _ _, ?_, ofBytes_hi8_lo8 w, ofBytes_hi8_lo8 w,
    ofBytes_hi8_lo8 w, rfl, rfl, rfl, rfl, rfl, rfl, rfl, rfl, rfl, rfl, rfl, rfl, f_toNat s, packFlags_toNat⟩
  rw [State.af, ofBytes_toNat, readF_toNat]

/-! ### Reset -/

/-- `reset` in either mode: the core runs, every latch is clear, the low nibble of `F` is dropped. -/
theorem resetCore_inv {s : State} (hmem : Memory.wf s.mem = true) (mode : ResetMode) : (s.resetCore mode).Inv :=
  ⟨hmem, highNibble_low _, by simp [State.resetCore], by simp [State.resetCore], by simp [State.resetCore], .inl rfl⟩

/-- Settles O50: reset in either mode meets the invariant, and `State.reset` is what `reset(BootSkip)` makes of itself. -/
theorem resetStateMeetsTheInvariant : Obligations.ResetStateMeetsTheInvariant :=
  ⟨resetCore_inv (s := State.reset) rfl .bootSkip, fun _ mode hmem => resetCore_inv hmem mode⟩

end Sys2Proof.Machine
end

section
/-! 20_memory.md: memory after a Step is memory before it with the listed writes applied in order (R60, R64).

The invariant `WritesLogged m` relates the memory and the access list of one state. The beginning of a Step, which empties
the list, establishes it for the memory it finds; each part of the Step keeps it. -/

namespace Sys2Proof.Machine

/-! ### The writes of an access list -/

/-- A byte that no listed write addresses reads as before the writes. -/
theorem Memory.read_applyAll_of_not_written {accesses : List BusAccess} {addr : Word}
    (h : ∀ v, BusAccess.write addr v ∉ accesses) (m : Memory) :
    Memory.read (accesses.foldl BusAccess.apply m) addr.toNat = Memory.read m addr.toNat := by
  induction accesses generalizing m with
  | nil => rfl
  | cons x rest ih =>
    have hrest : ∀ v, BusAccess.write addr v ∉ rest := fun v hv => h v (.tail _ hv)
    rw [List.foldl_cons, ih hrest]
    cases x with
    | read => rfl
    | write addr' v =>
      have hne : addr ≠ addr' := fun heq => h v (heq ▸ .head _)
      exact Memory.read_write_other m v (by simpa [BitVec.toNat_inj] using hne)

/-- The memory is `m` with the writes of the state's access list applied in the list's order. -/
def State.WritesLogged (m : Memory) (s : State) : Prop := s.mem = s.busAccesses.foldl BusAccess.apply m

namespace State.WritesLogged

variable {m : Memory} {s t : State}

/-- An update of neither memory nor the access list. -/
theorem of_eq (h : s.WritesLogged m) (hmem : t.mem = s.mem) (hacc : t.busAccesses = s.busAccesses) :
    t.WritesLogged m := by
  rw [State.WritesLogged, hmem, hacc]
  exact h

/-- An update that applies to memory the accesses it appends to the list. -/
theorem of_append (h : s.WritesLogged m) {accesses : List BusAccess}
    (hmem : t.mem = accesses.foldl BusAccess.apply s.mem) (hacc : t.busAccesses = s.busAccesses ++ accesses) :
    t.WritesLogged m := by
  rw [State.WritesLogged, hmem, hacc, List.foldl_append, ← show s.mem = _ from h]

theorem dataUpdates (hs : s.WritesLogged m) (h : DataUpdates s t) : t.WritesLogged m := by
  induction h with
  | refl => exact hs
  | busRead _ _ ih => exact ih.of_append rfl rfl
  | busWrite _ _ _ ih => exact ih.of_append rfl rfl
  | setReg _ _ _ ih => exact ih.of_eq (State.setReg_mem ..) (State.setReg_busAccesses ..)
  | setFlags _ _ _ _ _ ih | writeF _ _ ih | setSp _ _ ih | setPc _ _ ih | setCycles _ _ ih => exact ih.of_eq rfl rfl

/-- An instruction writes memory through the bus only; the control state it writes besides is neither memory nor the list. -/
theorem effect {i : Instr} (hs : s.WritesLogged m) (h : Effect s i t) : t.WritesLogged m := by
  cases h with
  | data h => exact hs.dataUpdates h
  | halted h | haltBug _ h => exact (hs.dataUpdates h).of_eq rfl rfl
  | reti => exact (hs.dataUpdates (.pop16 .refl)).of_eq rfl rfl
  | di | ei | stop | illegal => exact hs.of_eq rfl rfl

theorem fetchInstr (hs : s.WritesLogged m) : s.fetchInstr.2.WritesLogged m := by
  refine s.fetchInstr_induct (fun h => ?_) (fun t h => h.dataUpdates (.fetch8 .refl)) hs
  rw [fetchOpcode_eq]
  exact (h.dataUpdates (.busRead .refl s.pc)).of_eq rfl rfl

theorem promote (hs : s.WritesLogged m) : s.promote.WritesLogged m :=
  hs.of_eq s.promote_mem s.promote_busAccesses

/-- The undo of a fetch keeps the fetch's reads in the list; they, and nothing else, were made since `s`. -/
theorem undo_fetch (hs : s.WritesLogged m) : (s.undo s.promote.fetchInstr.2).WritesLogged m := by
  have hmem : (s.undo s.promote.fetchInstr.2).mem = s.promote.fetchInstr.2.mem := by simp [State.undo]
  exact hs.promote.fetchInstr.of_eq hmem rfl

theorem dispatch (hs : s.WritesLogged m) (k : IntSource) (ifl : Byte) : (s.dispatch k ifl).WritesLogged m :=
  hs.of_append (s.dispatch_mem k ifl) (s.dispatch_busAccesses k ifl)

theorem interruptPhase (hs : s.WritesLogged m) (sampled : Option (Byte × Byte)) :
    (s.interruptPhase sampled).WritesLogged m := by
  obtain ⟨-, heq⟩ | ⟨-, -, ie, ifl, u, hu, hphase⟩ := interruptPhase_cases s sampled
  · rwa [heq]
  have hsample : u.WritesLogged m := by
    obtain ⟨-, rfl⟩ | ⟨-, -, -, rfl⟩ := hu
    · exact hs
    · exact hs.dataUpdates (.busRead (.busRead .refl _) _)
  obtain ⟨-, heq⟩ | ⟨k, -, heq⟩ := hphase
  · rwa [heq]
  · rw [heq]
    exact (hsample.dispatch k ifl).of_eq rfl rfl

theorem endStep (hs : s.WritesLogged m) (sampled : Option (Byte × Byte)) : (s.endStep sampled).WritesLogged m :=
  (hs.interruptPhase sampled).of_eq rfl rfl

theorem haltedArm (hs : s.WritesLogged m) : s.haltedArm.1.WritesLogged m := by
  have hsample : (s.sampleInterrupts.2.setCycles haltStepCycles).WritesLogged m :=
    hs.dataUpdates (.setCycles (.busRead (.busRead .refl _) _) _)
  unfold State.haltedArm
  dsimp only
  split
  · exact hsample
  · exact hsample.of_eq rfl rfl

theorem stoppedArm (hs : s.WritesLogged m) (wake : Bool) : (s.stoppedArm wake).WritesLogged m := by
  unfold State.stoppedArm
  dsimp only
  split <;> exact hs.of_eq rfl rfl

/-- The instruction phase executes the fetched instruction, after the fetch or, for an illegal opcode, after its undo. -/
theorem instructionPhase (hs : s.WritesLogged m) : ∃ u, instructionPhase s = .next u ∧ u.WritesLogged m := by
  unfold Machine.instructionPhase
  dsimp only
  split
  · obtain ⟨u, hexec, heffect⟩ := exec_effect s.promote.fetchInstr.1 (s.undo s.promote.fetchInstr.2)
    exact ⟨u, hexec, hs.undo_fetch.effect heffect⟩
  · obtain ⟨u, hexec, heffect⟩ := exec_effect s.promote.fetchInstr.1 s.promote.fetchInstr.2
    exact ⟨u, hexec, hs.promote.fetchInstr.effect heffect⟩

theorem runningArm (hs : s.WritesLogged m) (h : afterInstruction (Machine.instructionPhase s) = .next t) :
    t.WritesLogged m := by
  obtain ⟨u, hphase, hu⟩ := hs.instructionPhase
  obtain rfl : (if u.fault.isSome then u else u.endStep none) = t := by simpa [afterInstruction, hphase] using h
  split
  · exact hu
  · exact hu.endStep none

end State.WritesLogged

/-- A Step logs its writes against the memory it begins with. -/
theorem step_writesLogged {s t : State} (h : step s = .next t) : t.WritesLogged s.mem := by
  have hbegin : s.beginStep.WritesLogged s.mem := rfl
  obtain ⟨-, ⟨-, hrunning⟩ | ⟨-, rfl⟩ | ⟨-, rfl⟩⟩ := step_next_cases h
  · exact hbegin.runningArm hrunning
  · exact hbegin.haltedArm.endStep _
  · exact (hbegin.stoppedArm s.wakeInput).endStep none

/-- Settles O52: the Step logs its writes, so a byte that none of them addresses is kept. -/
theorem storesAreExactlyTheLoggedWrites : Obligations.StoresAreExactlyTheLoggedWrites := by
  intro s t hstep
  have hmem : t.mem = t.busAccesses.foldl BusAccess.apply s.mem := step_writesLogged hstep
  refine ⟨hmem, fun addr hnone => ?_⟩
  rw [hmem, Memory.read_applyAll_of_not_written hnone]

end Sys2Proof.Machine
end

section
/-! 30_encoding.md, the two opcode tables: what an encoding is (R80, R95 to R99), and that the decoder and the encoder agree.

`Encoding bytes i` lists the shapes of R95 once. Every well-formed instruction has one, whatever decodes has one, and the
fetch reads one. -/

namespace Sys2Proof

/-- The bytes of one instruction: an opcode byte with its immediate, or the CB byte with its second opcode byte; the slot
`PREFIX CB` is the CB byte alone. -/
inductive Encoding : List Byte → Instr → Prop
  | slot : Encoding [cbByte] .prefixCb
  | cb (op2 : Byte) : Encoding [cbByte, op2] (cbSlot op2)
  | bare {op : Byte} (hcb : op ≠ cbByte) (himm : immediateOf op = .none) : Encoding [op] (unprefixedSlot op 0 0)
  | byte {op : Byte} (himm : immediateOf op = .byte) (n : Byte) : Encoding [op, n] (unprefixedSlot op n 0)
  | word {op : Byte} (himm : immediateOf op = .word) (nn : Word) :
      Encoding [op, lo8 nn, hi8 nn] (unprefixedSlot op 0 nn)

theorem ne_cbByte_of_immediate {op : Byte} (himm : immediateOf op ≠ .none) : op ≠ cbByte := by
  rintro rfl
  exact himm rfl

namespace Encoding

variable {bytes : List Byte} {i : Instr}

/-- An encoding is the one `encode` gives, its instruction is well formed, and the descriptor has its length. -/
theorem facts (h : Encoding bytes i) : i.WellFormed ∧ encode i = bytes ∧ i.descriptor.length = bytes.length := by
  cases h with
  | slot => exact ⟨rfl, rfl, rfl⟩
  | cb op2 => exact cbSlot_encode op2
  | bare hcb himm => exact slot_none_encode hcb himm
  | byte himm n => exact slot_byte_encode himm n
  | word himm nn => exact slot_word_encode himm nn

theorem wellFormed (h : Encoding bytes i) : i.WellFormed :=
  let ⟨hwf, _, _⟩ := h.facts
  hwf

theorem encode_eq (h : Encoding bytes i) : encode i = bytes :=
  let ⟨_, hencode, _⟩ := h.facts
  hencode

theorem descriptor_length (h : Encoding bytes i) : i.descriptor.length = bytes.length :=
  let ⟨_, _, hlength⟩ := h.facts
  hlength

theorem length_le (h : Encoding bytes i) : bytes.length ≤ 3 := by
  cases h <;> simp

/-- The decoder reads an encoding and leaves what follows it. -/
theorem decode_append (h : Encoding bytes i) {rest : List Byte} (hslot : i = .prefixCb → rest = []) :
    decode (bytes ++ rest) = .ok i rest := by
  cases h with
  | slot => rw [hslot rfl]; rfl
  | cb op2 => exact decode_cb op2 rest
  | bare hcb himm => exact decode_none rest hcb himm
  | byte himm n => exact decode_byte n rest (ne_cbByte_of_immediate (by simp [himm])) himm
  | word himm nn =>
    have h := decode_word (lo8 nn) (hi8 nn) rest (ne_cbByte_of_immediate (by simp [himm])) himm
    rwa [Machine.ofBytes_hi8_lo8] at h

/-- Two bytes in the stream's order are the immediate of a 3-byte instruction, low byte first (R88). -/
theorem word_bytes {op : Byte} (himm : immediateOf op = .word) (lo hi : Byte) :
    Encoding [op, lo, hi] (unprefixedSlot op 0 (ofBytes hi lo)) := by
  simpa using Encoding.word himm (ofBytes hi lo)

end Encoding

/-! ### Every instruction is a slot of the tables -/

theorem illegal_wellFormed {op : Byte} : (Instr.illegal op).WellFormed ↔ op ∈ illegalBytes :=
  List.contains_iff_mem

theorem encoding_illegal {op : Byte} (h : op ∈ illegalBytes) : Encoding [op] (.illegal op) := by
  have hslot : op ≠ cbByte ∧ immediateOf op = .none ∧ unprefixedSlot op 0 0 = .illegal op := by
    revert op; decide
  obtain ⟨hcb, himm, heq⟩ := hslot
  exact heq ▸ .bare hcb himm

/-- Form by form: the operand codes of a well-formed instruction select a slot of its table. -/
theorem Machine.Form.encoding (f : Form) (h : f.instr.WellFormed) : Encoding (encode f.instr) f.instr := by
  cases f with
  | prefixCb => exact .slot
  | illegal op => exact encoding_illegal (illegal_wellFormed.mp h)
  | rotReg op r => cases op <;> cases r <;> exact .cb _
  | rotAtHl op => cases op <;> exact .cb _
  | bitReg b r | resReg b r | setReg b r => fin_cases b <;> cases r <;> exact .cb _
  | bitAtHl b | resAtHl b | setAtHl b => fin_cases b <;> exact .cb _
  | ldRegReg dst r => cases dst <;> cases r <;> exact .bare (by decide) rfl
  | ldRegAtHl r | ldAtHlReg r | incReg r | decReg r => cases r <;> exact .bare (by decide) rfl
  | push p | pop p | addHlPair p | incPair p | decPair p => cases p <;> exact .bare (by decide) rfl
  | retCond cc => cases cc <;> exact .bare (by decide) rfl
  | rst k => fin_cases k <;> exact .bare (by decide) rfl
  | nop | loadInc | loadDec | storeInc | storeDec | ldSpHl | incAtHl | decAtHl | daa | cpl | scf | ccf | rlca | rrca
  | rla | rra | jpHl | ret | reti | di | ei | halt => exact .bare (by decide) rfl
  | ldRegImm dst n => cases dst <;> exact .byte rfl n
  | jrCond cc e => cases cc <;> exact .byte rfl e
  | ldAtHlImm n | ldHlSpE n | addSpE n | jr n | stop n => exact .byte rfl n
  | ldPairImm p nn => cases p <;> exact .word rfl nn
  | jpCond cc nn | callCond cc nn => cases cc <;> exact .word rfl nn
  | ldAtNnSp nn | jp nn | call nn => exact .word rfl nn
  | loadA m | storeA m =>
    cases m with
    | atBc | atDe | highC => exact .bare (by decide) rfl
    | highN n => exact .byte rfl n
    | atNn nn => exact .word rfl nn
  | alu op x =>
    cases x with
    | reg r => cases op <;> cases r <;> exact .bare (by decide) rfl
    | atHl => cases op <;> exact .bare (by decide) rfl
    | imm n => cases op <;> exact .byte rfl n

theorem encoding_encode {i : Instr} (h : i.WellFormed) : Encoding (encode i) i := by
  obtain ⟨f, rfl⟩ := Machine.exists_form i
  exact f.encoding h

/-! ### What the decoder reads is an encoding -/

/-- A list of bytes is empty, begins with an encoding, which is what decodes, or cuts an immediate short. -/
theorem decode_cases (bytes : List Byte) :
    (bytes = [] ∧ decode bytes = .rejected .noByte) ∨
    (∃ e i rest, Encoding e i ∧ bytes = e ++ rest ∧ decode bytes = .ok i rest) ∨
    (∃ need, bytes.length < need ∧ need ≤ 3 ∧ decode bytes = .rejected (.truncated bytes.length need)) := by
  match bytes with
  | [] => exact .inl ⟨rfl, rfl⟩
  | op :: tail =>
    right
    by_cases hcb : op = cbByte
    · subst hcb
      cases tail with
      | nil => exact .inl ⟨_, _, [], .slot, rfl, rfl⟩
      | cons op2 rest => exact .inl ⟨_, _, rest, .cb op2, rfl, decode_cb op2 rest⟩
    · cases himm : immediateOf op with
      | none => exact .inl ⟨_, _, tail, .bare hcb himm, rfl, decode_none tail hcb himm⟩
      | byte =>
        cases tail with
        | nil => exact .inr ⟨2, by simp [decode, hcb, himm]⟩
        | cons n rest => exact .inl ⟨_, _, rest, .byte himm n, rfl, decode_byte n rest hcb himm⟩
      | word =>
        match tail with
        | [] | [_] => exact .inr ⟨3, by simp [decode, hcb, himm]⟩
        | lo :: hi :: rest =>
          exact .inl ⟨_, _, rest, .word_bytes himm lo hi, rfl, decode_word lo hi rest hcb himm⟩

/-- Settles O59: the encoding of a well-formed instruction is a slot of the tables, which the decoder reads back. -/
theorem decodeOfEncodeIsTheInstruction : Obligations.DecodeOfEncodeIsTheInstruction :=
  fun _ _ hwf hslot => (encoding_encode hwf).decode_append hslot

/-- Settles O60: what decodes begins with an encoding, and an encoding is the one `encode` gives. -/
theorem encodeOfDecodeIsTheBytes : Obligations.EncodeOfDecodeIsTheBytes := by
  intro bytes
  obtain ⟨hnil, h⟩ | ⟨e, i, rest, he, rfl, h⟩ | ⟨need, hlt, hle, h⟩ := decode_cases bytes
  · rw [h]
    exact hnil
  · rw [h]
    exact ⟨he.wellFormed, by rw [he.encode_eq, he.descriptor_length], by rw [he.encode_eq]⟩
  · rw [h]
    exact ⟨rfl, hlt, hle⟩

/-- Settles O58, by evaluating the decoder on each word. -/
theorem decodeWords : Obligations.DecodeWords := by
  unfold Obligations.DecodeWords
  decide

end Sys2Proof
end

section
/-! 30_encoding.md, the fetch and what it runs: the fetch reads one encoding (R87 to R90), the slot `PREFIX CB` runs the CB
instruction its second byte selects (R96), and a Step runs the instruction it fetches (R90). -/

namespace Sys2Proof.Machine

/-! ### The slot `PREFIX CB` -/

/-- The form of a CB instruction, by the fields `x`, `y`, `z` of its second opcode byte (R82, R94). -/
def cbForm (op2 : Byte) : Form :=
  let y := Fin.ofNat 8 (op2.toNat / 8)
  match op2.toNat / 64, regOfCode (op2.toNat % 8) with
  | 0, some r => .rotReg (rotOfCode y) r
  | 0, none => .rotAtHl (rotOfCode y)
  | 1, some r => .bitReg y r
  | 1, none => .bitAtHl y
  | 2, some r => .resReg y r
  | 2, none => .resAtHl y
  | _, some r => .setReg y r
  | _, none => .setAtHl y

theorem cbForm_instr (op2 : Byte) : (cbForm op2).instr = cbSlot op2 := by
  revert op2; decide +kernel

theorem cbForm_run (op2 : Byte) (s : State) : (cbForm op2).run s = runCb op2 s := by
  unfold cbForm runCb
  generalize op2.toNat / 64 = x, regOfCode (op2.toNat % 8) = z
  rcases x with _ | _ | _ | x <;> cases z <;> rfl

/-- What the fields of the second byte select is the instruction of its slot in the CB table. -/
theorem runCb_eq_exec (op2 : Byte) (s : State) : runCb op2 s = exec (cbSlot op2) s := by
  rw [← cbForm_run, ← exec_form, cbForm_instr]

/-- Settles O40: the slot runs the CB instruction of the byte at `PC`, which completes. -/
theorem prefixSlotRunsTheSecondByte : Obligations.PrefixSlotRunsTheSecondByte := by
  intro s
  obtain ⟨t, hexec, -⟩ := exec_effect (cbSlot s.fetch8.1) s.fetch8.2
  exact ⟨rfl, t, (runCb_eq_exec _ _).trans hexec, hexec⟩

/-! ### The fetch -/

/-- The bytes of the first `n` fetches. -/
def State.fetchedBytes (s : State) (n : Nat) : List Byte := (s.readAll (s.fetchAddrs.take n)).1

/-- The state after the first `n` fetches. -/
def State.afterFetch (s : State) (n : Nat) : State :=
  { (s.readAll (s.fetchAddrs.take n)).2 with pc := s.pcAfter n, haltBug := false }

theorem pcAfter_succ (s : State) (n : Nat) : s.pcAfter n + 1 = s.pcAfter (n + 1) := by
  unfold State.pcAfter
  split <;> simp only [BitVec.ofNat_add] <;> bv_omega

/-- Each byte is fetched where `PC` then points. -/
theorem fetchAddrs_eq (s : State) : s.fetchAddrs = [s.pc, s.pcAfter 1, s.pcAfter 2] := by
  rw [← pcAfter_succ s 1]
  unfold State.fetchAddrs State.pcAfter
  split
  · change _ = [s.pc, s.pc + 1 - 1, s.pc + 1 - 1 + 1]
    rw [BitVec.add_sub_cancel]
  · rw [← add_one_add_one]
    rfl

theorem fetchOpcode_eq_afterFetch (s : State) : s.fetchOpcode = (s.busValue s.pc, s.afterFetch 1) := by
  rw [fetchOpcode_eq, State.afterFetch, fetchAddrs_eq]
  cases h : s.haltBug <;> simp [State.pcAfter, h] <;> rfl

theorem afterFetch_one_fetch8 (s : State) :
    (s.afterFetch 1).fetch8 = ((s.busRead s.pc).busValue (s.pcAfter 1), s.afterFetch 2) := by
  rw [fetch8_eq, State.afterFetch, State.afterFetch, ← pcAfter_succ s 1, fetchAddrs_eq]
  rfl

theorem afterFetch_two_fetch8 (s : State) :
    (s.afterFetch 2).fetch8 =
      (((s.busRead s.pc).busRead (s.pcAfter 1)).busValue (s.pcAfter 2), s.afterFetch 3) := by
  rw [fetch8_eq, State.afterFetch, State.afterFetch, ← pcAfter_succ s 2, fetchAddrs_eq]
  rfl

/-- The fetch reads the bytes of one encoding, two of them if the first is the CB byte. -/
theorem fetchInstr_encoding (s : State) :
    ∃ n, s.fetchInstr.2 = s.afterFetch n ∧ (s.fetchedBytes n).length = n ∧
      Encoding (s.fetchedBytes n) s.fetchInstr.1 ∧ s.fetchedBytes n ≠ [cbByte] := by
  unfold State.fetchInstr State.fetchedBytes
  simp only [fetchOpcode_eq_afterFetch, State.fetch16, afterFetch_one_fetch8, afterFetch_two_fetch8, fetchAddrs_eq]
  split
  · next hcb =>
    refine ⟨2, rfl, rfl, ?_, by simp [State.readAll]⟩
    change Encoding [s.busValue s.pc, _] _
    rw [hcb]
    exact .cb _
  · next hcb =>
    split
    · next himm => exact ⟨1, rfl, rfl, .bare hcb himm, by simpa [State.readAll] using hcb⟩
    · next himm => exact ⟨2, rfl, rfl, .byte himm _, by simp [State.readAll]⟩
    · next himm => exact ⟨3, rfl, rfl, .word_bytes himm _ _, by simp [State.readAll]⟩

/-- Settles O42: the bytes the fetch reads are the instruction's encoding. -/
theorem fetchReadsOneInstruction : Obligations.FetchReadsOneInstruction := by
  intro s
  obtain ⟨n, hnext, hlen, henc, hne⟩ := fetchInstr_encoding s
  have hn : s.fetchInstr.1.descriptor.length = n := henc.descriptor_length.trans hlen
  dsimp only
  rw [hn]
  refine ⟨henc.wellFormed, ?_, hnext⟩
  have h := henc.decode_append (rest := []) (fun _ => rfl)
  rwa [List.append_nil] at h

/-! ### The Step -/

theorem Effect.keepsFault {s t : State} {i : Instr} (h : Effect s i t) (hi : i.isIllegal = false) : t.fault = s.fault := by
  cases h with
  | data h | halted h | haltBug _ h => exact h.keepsControl.fault
  | reti => exact (DataUpdates.pop16 (s := s) .refl).keepsControl.fault
  | di | ei | stop => rfl
  | illegal => cases hi

/-- The Step of a running core executes the instruction it fetches, unless that is an illegal opcode. -/
theorem step_of_not_illegal {s u : State} (hfault : s.fault = none) (hrun : s.runState = .running)
    (hu : s.beginStep.promote = u) (hi : u.fetchInstr.1.isIllegal = false) :
    ∃ t, exec u.fetchInstr.1 u.fetchInstr.2 = .next t ∧ step s = .next (t.endStep none) := by
  subst hu
  obtain ⟨t, hexec, heffect⟩ := exec_effect s.beginStep.promote.fetchInstr.1 s.beginStep.promote.fetchInstr.2
  have hnone : t.fault = none := by simpa [hfault] using heffect.keepsFault hi
  refine ⟨t, hexec, ?_⟩
  simp [step_running hfault hrun, instructionPhase, hi, hexec, afterInstruction, hnone]

/-- With no answer pending a read changes the list of accesses only. -/
theorem busRead_store {s : State} (h : s.busAnswers = []) (addr : Word) :
    s.busRead addr = { s with busAccesses := s.busAccesses ++ [.read addr (Memory.read s.mem addr.toNat)] } := by
  simp [State.busRead, State.busValue_store h, h]

/-- With no answer pending the store answers every read of a list. -/
theorem readAll_store {s : State} (h : s.busAnswers = []) (addrs : List Word) :
    s.readAll addrs = (addrs.map fun addr => Memory.read s.mem addr.toNat,
      { s with busAccesses := s.busAccesses ++ addrs.map fun addr => .read addr (Memory.read s.mem addr.toNat) }) := by
  induction addrs generalizing s with
  | nil => simp [State.readAll]
  | cons addr rest ih =>
    have hnext : (s.busRead addr).busAnswers = [] := by simp [h]
    simp only [State.readAll, ih hnext, State.busValue_store h]
    simp [busRead_store h]

/-- A Step whose reads the store answers fetches the bytes at `fetchAddrs`. -/
theorem fetchedBytes_beginStep {s : State} (h : s.busAnswers = []) (n : Nat) :
    s.beginStep.promote.fetchedBytes n = (s.fetchAddrs.take n).map fun addr => Memory.read s.mem addr.toNat := by
  have hans : s.beginStep.promote.busAnswers = [] := by simpa
  rw [State.fetchedBytes, readAll_store hans, State.promote_eq]
  rfl

/-- A Step whose reads the store answers executes its instruction in the state `fetched`. -/
theorem afterFetch_beginStep {s : State} (h : s.busAnswers = []) (n : Nat) :
    s.beginStep.promote.afterFetch n = s.fetched n := by
  have hans : s.beginStep.promote.busAnswers = [] := by simpa
  rw [State.afterFetch, readAll_store hans, State.promote_eq]
  rfl

/-- A Step whose reads the store answers fetches the instruction to which the bytes at `fetchAddrs` decode. -/
theorem fetchInstr_of_decode {s : State} (h : s.busAnswers = []) {i : Instr} {rest : List Byte}
    (hdec : decode (s.fetchAddrs.map fun addr => Memory.read s.mem addr.toNat) = .ok i rest) :
    i.WellFormed ∧ s.beginStep.promote.fetchInstr = (i, s.fetched (3 - rest.length)) := by
  obtain ⟨n, hnext, hlen, henc, hne⟩ := fetchInstr_encoding s.beginStep.promote
  have hle : n ≤ 3 := hlen ▸ henc.length_le
  have hthree : (s.fetchAddrs.map fun addr => Memory.read s.mem addr.toNat).length = 3 := by simp [fetchAddrs_eq]
  rw [afterFetch_beginStep h] at hnext
  rw [fetchedBytes_beginStep h, List.map_take] at henc hne
  generalize (s.fetchAddrs.map fun addr => Memory.read s.mem addr.toNat) = bytes at hdec hthree henc hne
  have hread := henc.decode_append (rest := bytes.drop n) (fun hi => absurd (hi ▸ henc).encode_eq.symm hne)
  rw [List.take_append_drop, hdec, Decoded.ok.injEq] at hread
  obtain ⟨rfl, rfl⟩ := hread
  have hn : 3 - (bytes.drop n).length = n := by
    rw [List.length_drop, hthree]
    omega
  exact ⟨henc.wellFormed, by rw [hn, ← hnext]⟩

/-- Settles O41: the Step executes what it fetches; with the store answering, that is what the bytes at `PC` decode to. -/
theorem stepRunsDecodedInstruction : Obligations.StepRunsDecodedInstruction := by
  intro s hfault hrun
  refine ⟨⟨s.beginStep.promote_eq, step_of_not_illegal hfault hrun s.beginStep.promote_eq⟩, fun i rest hans hdec hi => ?_⟩
  obtain ⟨hwf, hfetch⟩ := fetchInstr_of_decode hans hdec
  have hstep := step_of_not_illegal hfault hrun rfl (by rwa [hfetch])
  rw [hfetch] at hstep
  exact ⟨hwf, hfetch, hstep⟩

end Sys2Proof.Machine
end

section
/-! 30_encoding.md R83 and R86, 45_control_flow.md R269: an instruction reports the cycles of its descriptor, a conditional one
the count of the arm it takes. -/

namespace Sys2Proof.Machine

/-- A meaning of `i` run from `s` completes and reports the descriptor's cycles, or its not-taken count where the condition of
`i` fails. -/
def ReportsCycles (i : Instr) (s : State) (r : Host.Outcome State Fault Refusal) : Prop :=
  ∃ t, r = .next t ∧ some t.stepCycles =
    match i.condition with
    | none => i.descriptor.cycles
    | some cc => if cc.holds s.f then i.descriptor.cycles else i.descriptor.cyclesNotTaken

namespace ReportsCycles

variable {i : Instr} {s : State} {n m : Nat}

theorem retire (hcond : i.condition = none) (hn : i.descriptor.cycles = some n) (t : State) :
    ReportsCycles i s (retire n t) :=
  ⟨_, rfl, by rw [hcond, hn]; rfl⟩

theorem ite {cc : Cond} (hcond : i.condition = some cc) (hn : i.descriptor.cycles = some n)
    (hm : i.descriptor.cyclesNotTaken = some m) (t u : State) :
    ReportsCycles i s (if s.cond cc then Machine.retire n t else Machine.retire m u) := by
  simp only [ReportsCycles, hcond, hn, hm, s.cond_eq_holds]
  cases cc.holds s.f with
  | true => exact ⟨_, rfl, rfl⟩
  | false => exact ⟨_, rfl, rfl⟩

theorem halt (s : State) : ReportsCycles .halt s (halt s) := by
  unfold Machine.halt
  dsimp only
  split
  · exact .retire rfl rfl _
  · split <;> exact .retire rfl rfl _

end ReportsCycles

/-- Form by form: the count each meaning retires with is the count of the instruction's row of the table. -/
theorem Form.run_reportsCycles (f : Form) (s : State) (hi : f.instr.isIllegal = false) (hp : f.instr ≠ .prefixCb)
    (hs : ∀ n, f.instr ≠ .stop n) : ReportsCycles f.instr s (f.run s) := by
  cases f with
  | illegal => cases hi
  | prefixCb => exact absurd rfl hp
  | stop n => exact absurd rfl (hs n)
  | halt => exact .halt s
  | jpCond cc | jrCond cc | callCond cc | retCond cc => cases cc <;> exact .ite rfl rfl rfl _ _
  | ldRegReg dst r => cases dst <;> cases r <;> exact .retire rfl rfl _
  | ldRegImm r | ldRegAtHl r | ldAtHlReg r | incReg r | decReg r => cases r <;> exact .retire rfl rfl _
  | ldPairImm p | push p | pop p | addHlPair p | incPair p | decPair p => cases p <;> exact .retire rfl rfl _
  | loadA m | storeA m => cases m <;> exact .retire rfl rfl _
  | alu op x =>
    cases x with
    | reg r => cases op <;> cases r <;> exact .retire rfl rfl _
    | atHl | imm => cases op <;> exact .retire rfl rfl _
  | rotReg op r => cases op <;> cases r <;> exact .retire rfl rfl _
  | rotAtHl op => cases op <;> exact .retire rfl rfl _
  | bitReg b r | resReg b r | setReg b r => fin_cases b <;> cases r <;> exact .retire rfl rfl _
  | bitAtHl b | resAtHl b | setAtHl b => fin_cases b <;> exact .retire rfl rfl _
  | rst k => fin_cases k <;> exact .retire rfl rfl _
  | nop | loadInc | loadDec | storeInc | storeDec | ldAtHlImm | ldAtNnSp | ldSpHl | ldHlSpE | addSpE | incAtHl | decAtHl
  | daa | cpl | scf | ccf | rlca | rrca | rla | rra | jp | jpHl | jr | call | ret | reti | di | ei =>
    exact .retire rfl rfl _

/-- Settles O56, through the forms. -/
theorem cyclesAreTheDescriptors : Obligations.CyclesAreTheDescriptors := by
  intro i s hi hp hs
  obtain ⟨f, rfl⟩ := exists_form i
  rw [exec_form]
  exact f.run_reportsCycles s hi hp hs

end Sys2Proof.Machine
end

section
/-! 40_load8.md: the 8-bit loads and stores. The 85 instructions are five operations: put a byte into a register, load a
register from the bus, store a byte, and a load or a store of `A` at the old `HL` that then sets `HL`. Each operation gets one
statement of what it does and keeps; an instruction inherits it through its form. -/

namespace Sys2Proof.Machine

/-- `t` follows from `s` by a move of data of `cycles` cycles: `F`, `SP`, `PC` and the control state are kept, and only the
listed registers and bytes are written, by the listed accesses. -/
def MovesData (s t : State) (cycles : Nat) (written : List Reg8) (stored : List (Word × Byte))
    (accesses : List BusAccess) : Prop :=
  t.stepCycles = cycles ∧ t.f = s.f ∧ t.sp = s.sp ∧ t.pc = s.pc ∧ KeepsControl s t ∧ Frame s t written stored accesses

/-! ### The five operations -/

theorem loadReg_completes (dst : Reg8) (v : Byte) (n : Nat) (s : State) :
    ∃ t, loadReg dst v n s = .next t ∧ t.getReg dst = v ∧ MovesData s t n [dst] [] [] := by
  have hdata : DataUpdates s ((s.setReg dst v).setCycles n) := (DataUpdates.refl.setReg _ _).setCycles _
  refine ⟨_, rfl, by simp, rfl, by simp, by simp, by simp, hdata.keepsControl, ?_⟩
  refine Frame.of_mem_eq (fun r hr => ?_) (by simp) (by simp) (by simp)
  have hne : r ≠ dst := by simpa using hr
  simp [State.getReg_setReg_other s v hne]

/-- The address is fixed before the register is written, so a load into half of `HL` through `HL` uses the old `HL`. -/
theorem loadMem_completes (dst : Reg8) (addr : Word) (n : Nat) (s : State) :
    ∃ t, loadMem dst addr n s = .next t ∧ t.getReg dst = s.busValue addr
      ∧ MovesData s t n [dst] [] [.read addr (s.busValue addr)] := by
  have hdata : DataUpdates s (((s.busRead addr).setReg dst (s.busValue addr)).setCycles n) :=
    ((DataUpdates.refl.busRead _).setReg _ _).setCycles _
  refine ⟨_, rfl, by simp, rfl, by simp, by simp, by simp, hdata.keepsControl, ?_⟩
  refine Frame.of_mem_eq (fun r hr => ?_) (by simp) (by simp) (by simp [BusAccess.isRead])
  have hne : r ≠ dst := by simpa using hr
  simp [State.getReg_setReg_other _ _ hne]

theorem storeMem_completes (addr : Word) (v : Byte) (n : Nat) (s : State) :
    ∃ t, storeMem addr v n s = .next t ∧ MovesData s t n [] [(addr, v)] [.write addr v] := by
  have hdata : DataUpdates s ((s.busWrite addr v).setCycles n) := (DataUpdates.refl.busWrite _ _).setCycles _
  exact ⟨_, rfl, rfl, rfl, rfl, rfl, hdata.keepsControl, .of_write (fun _ _ => by simp) rfl rfl rfl⟩

theorem loadStep_completes (w : Word) (s : State) :
    ∃ t, loadStep w s = .next t ∧ t.a = s.busValue s.hl ∧ t.hl = w
      ∧ MovesData s t 2 [.a, .h, .l] [] [.read s.hl (s.busValue s.hl)] := by
  have hdata : DataUpdates s ((((s.busRead s.hl).setReg .a (s.busValue s.hl)).setHl w).setCycles 2) :=
    (((DataUpdates.refl.busRead _).setReg _ _).setHl _).setCycles _
  refine ⟨_, rfl, rfl, ofBytes_hi8_lo8 w, rfl, rfl, rfl, rfl, hdata.keepsControl, ?_⟩
  refine Frame.of_mem_eq (fun r hr => ?_) rfl rfl (by simp [BusAccess.isRead])
  obtain ⟨ha, hhl⟩ : r ≠ .a ∧ r ∉ [Reg8.h, Reg8.l] := by simpa using hr
  simp [State.getReg_setHl_other _ w hhl, State.getReg_setReg_other _ _ ha]

theorem storeStep_completes (w : Word) (s : State) :
    ∃ t, storeStep w s = .next t ∧ t.hl = w ∧ MovesData s t 2 [.h, .l] [(s.hl, s.a)] [.write s.hl s.a] := by
  have hdata : DataUpdates s (((s.busWrite s.hl s.a).setHl w).setCycles 2) :=
    ((DataUpdates.refl.busWrite _ _).setHl _).setCycles _
  refine ⟨_, rfl, ofBytes_hi8_lo8 w, rfl, rfl, rfl, rfl, hdata.keepsControl, ?_⟩
  exact .of_write (fun r hr => by simp [State.getReg_setHl_other _ w hr]) rfl rfl rfl

/-! ### The encodings -/

theorem encode_ldRegReg (dst src : Reg8) : encode (.ldRegReg dst src) = [0x40 + 8 * dst.code + src.code] := by
  cases dst <;> cases src <;> rfl

theorem encode_ldRegImm (dst : Reg8) (n : Byte) : encode (.ldRegImm dst n) = [0x06 + 8 * dst.code, n] := by
  cases dst <;> rfl

theorem encode_ldRegAtHl (dst : Reg8) : encode (.ldRegAtHl dst) = [0x46 + 8 * dst.code] := by
  cases dst <;> rfl

theorem encode_ldAtHlReg (r : Reg8) : encode (.ldAtHlReg r) = [0x70 + r.code] := by
  cases r <;> rfl

theorem MemOperand.encode_load (m : MemOperand) : encode m.load = m.loadBytes := by
  cases m <;> rfl

theorem MemOperand.encode_store (m : MemOperand) : encode m.store = m.storeBytes := by
  cases m <;> rfl

/-! ### The instructions -/

/-- What the meaning of a form does, its instruction does. -/
theorem Form.exec_completes (f : Form) {s : State} {P : State → Prop} (h : ∃ t, f.run s = .next t ∧ P t) :
    ∃ t, exec f.instr s = .next t ∧ P t := by
  rwa [exec_form]

/-- Settles O1: both forms put a byte into a register and do nothing else. -/
theorem loadRegister : Obligations.LoadRegister := fun dst s =>
  ⟨fun src => ⟨encode_ldRegReg dst src, Form.exec_completes (.ldRegReg dst src) (loadReg_completes dst _ 1 s)⟩,
    fun n => ⟨encode_ldRegImm dst n, Form.exec_completes (.ldRegImm dst n) (loadReg_completes dst n 2 s)⟩⟩

/-- Settles O2: a load from the bus at the old `HL`. -/
theorem loadRegisterFromHl : Obligations.LoadRegisterFromHl := fun dst s =>
  ⟨encode_ldRegAtHl dst, Form.exec_completes (.ldRegAtHl dst) (loadMem_completes dst s.hl 2 s)⟩

/-- Settles O3: both forms store one byte at `HL`. -/
theorem storeAtHl : Obligations.StoreAtHl := fun s =>
  ⟨fun r => ⟨encode_ldAtHlReg r, Form.exec_completes (.ldAtHlReg r) (storeMem_completes s.hl _ 2 s)⟩,
    fun n => ⟨rfl, Form.exec_completes (.ldAtHlImm n) (storeMem_completes s.hl n 3 s)⟩⟩

/-- Settles O4: a load of `A` from the bus at the operand's address. -/
theorem loadAccumulator : Obligations.LoadAccumulator := fun m s =>
  ⟨m.encode_load, Form.exec_completes (.loadA m) (loadMem_completes .a (m.address s) m.cycles s)⟩

/-- Settles O5: a store of `A` at the operand's address. -/
theorem storeAccumulator : Obligations.StoreAccumulator := fun m s =>
  ⟨m.encode_store, Form.exec_completes (.storeA m) (storeMem_completes (m.address s) s.a m.cycles s)⟩

/-- Settles O6: the access at the old `HL`, then the new `HL`, for both directions of both forms. -/
theorem loadStoreHlIncrementDecrement : Obligations.LoadStoreHlIncrementDecrement := fun s =>
  ⟨⟨rfl, Form.exec_completes .loadInc (loadStep_completes (s.hl + 1) s)⟩,
    ⟨rfl, Form.exec_completes .loadDec (loadStep_completes (s.hl - 1) s)⟩,
    ⟨rfl, Form.exec_completes .storeInc (storeStep_completes (s.hl + 1) s)⟩,
    ⟨rfl, Form.exec_completes .storeDec (storeStep_completes (s.hl - 1) s)⟩⟩

end Sys2Proof.Machine
end

section
/-! 41_load16_stack.md: the 16-bit loads and the stack. A load of a pair and a load of `SP` write registers only; a store of `SP`
and a push write two neighbouring bytes, a pop reads two. Each operation gets one statement of what it does and keeps; an
instruction inherits it through its form. -/

namespace Sys2Proof.Machine

/-! ### Pairs -/

/-- What `rp2[p]` reads after a write: for `AF` the low nibble of the byte for `F` was dropped. -/
theorem State.getStackPair_setStackPair (s : State) (p : StackPair) (hi lo : Byte) :
    (s.setStackPair p (ofBytes hi lo)).getStackPair p = ofBytes hi (if p = .af then lo &&& 0xF0 else lo) := by
  cases p with
  | bc | de | hl => exact ofBytes_hi8_lo8 _
  | af => simp [State.setStackPair, State.getStackPair, State.af, State.readF, BitVec.and_assoc]

theorem lo8_getStackPair_af (s : State) : lo8 (s.getStackPair .af) = s.f &&& 0xF0 := lo8_ofBytes _ _

/-- The word a pop returns: the byte the bus answers first is the low one. -/
theorem State.pop16_word (s : State) :
    s.pop16.1 = ofBytes ((s.busRead s.sp).busValue (s.sp + 1)) (s.busValue s.sp) := rfl

/-! ### The operations -/

theorem loadPair_completes (p : Pair16) (nn : Word) (s : State) :
    ∃ t, loadPair p nn s = .next t ∧ t.getPair p = nn ∧ t.stepCycles = 3 ∧ t.f = s.f
      ∧ t.sp = (if p = .sp then nn else s.sp) ∧ t.pc = s.pc ∧ KeepsControl s t ∧ Frame s t p.regs [] [] := by
  have hdata : DataUpdates s ((s.setPair p nn).setCycles 3) := (DataUpdates.refl.setPair _ _).setCycles _
  refine ⟨_, rfl, s.getPair_setPair p nn, rfl, by simp, by simp, by simp, hdata.keepsControl, ?_⟩
  exact .of_mem_eq (fun r hr => by simp [State.getReg_setPair_other s nn hr]) (by simp) (by simp) (by simp)

theorem loadSp_completes (w : Word) (s : State) :
    ∃ t, retire 2 (s.setSp w) = .next t ∧ t.sp = w ∧ t.stepCycles = 2 ∧ t.f = s.f ∧ t.pc = s.pc ∧ KeepsControl s t
      ∧ Frame s t [] [] [] := by
  have hdata : DataUpdates s ((s.setSp w).setCycles 2) := (DataUpdates.refl.setSp _).setCycles _
  exact ⟨_, rfl, rfl, rfl, rfl, rfl, hdata.keepsControl, .of_mem_eq (fun _ _ => by simp) rfl (by simp) rfl⟩

theorem store16_completes (addr w : Word) (n : Nat) (s : State) :
    ∃ t, retire n (s.busWrite16 addr w) = .next t ∧ MovesData s t n [] [(addr, lo8 w), (addr + 1, hi8 w)]
      [.write addr (lo8 w), .write (addr + 1) (hi8 w)] := by
  have hdata : DataUpdates s ((s.busWrite16 addr w).setCycles n) :=
    ((DataUpdates.refl.busWrite _ _).busWrite _ _).setCycles _
  exact ⟨_, rfl, rfl, rfl, rfl, rfl, hdata.keepsControl,
    .of_write_write (succ_ne addr) (fun _ _ => by simp) (by simp) (by simp) rfl⟩

theorem pushPair_completes (p : StackPair) (s : State) :
    ∃ t, pushPair p s = .next t ∧ t.sp = s.sp - 2 ∧ t.stepCycles = 4 ∧ t.f = s.f ∧ t.pc = s.pc ∧ KeepsControl s t
      ∧ Frame s t [] [(s.sp - 1, hi8 (s.getStackPair p)), (s.sp - 2, lo8 (s.getStackPair p))]
          [.write (s.sp - 1) (hi8 (s.getStackPair p)), .write (s.sp - 2) (lo8 (s.getStackPair p))] := by
  have hdata : DataUpdates s ((s.push16 (s.getStackPair p)).setCycles 4) := (DataUpdates.refl.push16 _).setCycles _
  rw [← sub_one_sub_one]
  refine ⟨_, rfl, by simp, rfl, by simp, by simp, hdata.keepsControl, ?_⟩
  exact .of_write_write (pred_ne s.sp) (fun _ _ => by simp) (by simp) (by simp) (by simp [BusAccess.isRead])

theorem popPair_completes (p : StackPair) (s : State) :
    ∃ t, popPair p s = .next t
      ∧ t.getStackPair p = ofBytes ((s.busRead s.sp).busValue (s.sp + 1))
          (if p = .af then s.busValue s.sp &&& 0xF0 else s.busValue s.sp)
      ∧ t.f = (if p = .af then s.busValue s.sp &&& 0xF0 else s.f)
      ∧ t.sp = s.sp + 2 ∧ t.stepCycles = 3 ∧ t.pc = s.pc ∧ KeepsControl s t
      ∧ Frame s t p.regs []
          [.read s.sp (s.busValue s.sp), .read (s.sp + 1) ((s.busRead s.sp).busValue (s.sp + 1))] := by
  have hdata : DataUpdates s ((s.pop16.2.setStackPair p s.pop16.1).setCycles 3) :=
    (DataUpdates.refl.pop16.setStackPair _ _).setCycles _
  refine ⟨_, rfl, s.pop16.2.getStackPair_setStackPair p _ _, by simp [State.pop16_word], by simpa using add_one_add_one s.sp, rfl,
    by simp, hdata.keepsControl, ?_⟩
  exact .of_mem_eq (fun r hr => by simp [State.getReg_setStackPair_other _ _ hr]) (by simp) (by simp)
    ((State.setStackPair_busAnswers ..).trans s.pop16_busAnswers)

/-! ### A pop after a push -/

/-- A pop that the store answers returns the two bytes the store holds from `SP` on. -/
theorem State.pop16_store {s : State} (h : s.busAnswers = []) :
    s.pop16.1 = ofBytes (Memory.read s.mem (s.sp + 1).toNat) (Memory.read s.mem s.sp.toNat) := by
  have hnext : (s.busRead s.sp).busAnswers = [] := by simp [h]
  rw [State.pop16_word, State.busValue_store hnext, State.busValue_store h, State.busRead_mem]

/-- What `push16` leaves in a canonical store: the low byte at the new `SP`, the high byte above it. -/
theorem State.read_push16 {s : State} (hwf : Memory.wf s.mem = true) (w : Word) :
    Memory.read (s.push16 w).mem (s.sp - 1 - 1).toNat = lo8 w ∧ Memory.read (s.push16 w).mem (s.sp - 1).toNat = hi8 w := by
  have hne : (s.sp - 1).toNat ≠ (s.sp - 1 - 1).toNat := by simpa only [ne_eq, BitVec.toNat_inj] using pred_ne s.sp
  rw [State.push16_mem]
  exact ⟨Memory.read_write_same _ _ (Memory.wf_write _ _ hwf),
    (Memory.read_write_other _ _ hne).trans (Memory.read_write_same _ _ hwf)⟩

theorem State.pop16_push16 {s : State} (hans : s.busAnswers = []) (hwf : Memory.wf s.mem = true) (w : Word) :
    (s.push16 w).pop16.1 = w := by
  obtain ⟨hlo, hhi⟩ := State.read_push16 hwf w
  have hsp : s.sp - 1 - 1 + 1 = s.sp - 1 := BitVec.sub_add_cancel _ _
  rw [State.pop16_store (by simpa using hans), State.push16_sp, hsp, hlo, hhi, ofBytes_hi8_lo8]

theorem State.pop16_push16_sp (s : State) (w : Word) : (s.push16 w).pop16.2.sp = s.sp := by
  rw [State.pop16_sp, State.push16_sp, BitVec.sub_add_cancel, BitVec.sub_add_cancel]

/-! ### The encodings -/

theorem encode_ldPairImm (p : Pair16) (nn : Word) : encode (.ldPairImm p nn) = [0x01 + 16 * p.code, lo8 nn, hi8 nn] := by
  cases p <;> rfl

theorem encode_push (p : StackPair) : encode (.push p) = [0xC5 + 16 * p.code] := by
  cases p <;> rfl

theorem encode_pop (p : StackPair) : encode (.pop p) = [0xC1 + 16 * p.code] := by
  cases p <;> rfl

/-! ### The instructions -/

/-- Settles O7: a load of a pair with the immediate, and of `SP` with `HL`. -/
theorem loadPairAndStackPointer : Obligations.LoadPairAndStackPointer := fun s =>
  ⟨fun p nn => ⟨encode_ldPairImm p nn, Form.exec_completes (.ldPairImm p nn) (loadPair_completes p nn s)⟩,
    rfl, Form.exec_completes .ldSpHl (loadSp_completes s.hl s)⟩

/-- Settles O8: a 16-bit store of `SP`, whose two addresses differ also where they wrap. -/
theorem storeStackPointer : Obligations.StoreStackPointer := fun nn s =>
  ⟨rfl, Form.exec_completes (.ldAtNnSp nn) (store16_completes nn s.sp 5 s)⟩

/-- Settles O10: a push of the pair, `AF` with the low nibble of `F` read as zero. -/
theorem pushWritesHighThenLow : Obligations.PushWritesHighThenLow := fun p s =>
  ⟨encode_push p, lo8_getStackPair_af s, Form.exec_completes (.push p) (pushPair_completes p s)⟩

/-- Settles O11: a pop into the pair. -/
theorem popReadsLowThenHigh : Obligations.PopReadsLowThenHigh := fun p s =>
  ⟨encode_pop p, Form.exec_completes (.pop p) (popPair_completes p s)⟩

/-- Settles O12: the pop reads the two bytes the push wrote, and both write nothing but `SP` and the bus. -/
theorem popReturnsWhatPushStored : Obligations.PopReturnsWhatPushStored := by
  intro w s hans hwf
  have hdata : DataUpdates s (s.push16 w).pop16.2 := (DataUpdates.refl.push16 w).pop16
  exact ⟨State.pop16_push16 hans hwf w, s.pop16_push16_sp w, by simp, by simp, fun x => by simp, hdata.keepsControl⟩

end Sys2Proof.Machine
end

section
/-! 42_alu8.md: the 8-bit arithmetic and logic. Every instruction is one of four operations: an ALU operation on `A` with an
operand, a register set with the four flags, a byte at `HL` read and written back with the four flags, and the flags alone.
Each operation gets one statement of what it writes and keeps; the adders and `DAA` get their arithmetic on plain numbers. -/

namespace Sys2Proof.Machine

/-- `t` follows from `s` by a computation of `cycles` cycles: `SP`, `PC` and the control state are kept, and beside `F` only the
listed registers and bytes are written, by the listed accesses. -/
def ComputesData (s t : State) (cycles : Nat) (written : List Reg8) (stored : List (Word × Byte))
    (accesses : List BusAccess) : Prop :=
  t.stepCycles = cycles ∧ t.sp = s.sp ∧ t.pc = s.pc ∧ KeepsControl s t ∧ Frame s t written stored accesses

/-! ### Arithmetic on bytes -/

theorem lowNibble_toNat (v : Byte) : (v &&& 0x0F).toNat = v.toNat % 16 := by
  rw [BitVec.toNat_and]
  exact Nat.and_two_pow_sub_one_eq_mod v.toNat 4

theorem byte_ofInt_toNat (d : Int) : ((BitVec.ofInt 8 d).toNat : Int) = d % 256 := by
  rw [BitVec.toNat_ofInt]
  exact Int.toNat_of_nonneg (Int.emod_nonneg d (by decide))

theorem byte_eq_zero_iff (v : Byte) : v = 0 ↔ v.toNat = 0 := BitVec.toNat_inj.symm

theorem byte_ofInt_eq_zero_iff (d : Int) : BitVec.ofInt 8 d = 0 ↔ d % 256 = 0 := by
  rw [byte_eq_zero_iff, ← byte_ofInt_toNat, Int.natCast_eq_zero]

theorem add8_r_toNat (a b : Byte) (cin : Bool) : (add8 a b cin).r.toNat = (a.toNat + b.toNat + cin.toNat) % 256 :=
  BitVec.toNat_ofNat _ _

/-- The flags of an addition: zero, and the carries out of bits 3 and 7 with the carry in (R160). -/
theorem add8_flags (a b : Byte) (cin : Bool) :
    (add8 a b cin).z = decide ((a.toNat + b.toNat + cin.toNat) % 256 = 0) ∧
    (add8 a b cin).h = decide (a.toNat % 16 + b.toNat % 16 + cin.toNat > 15) ∧
    (add8 a b cin).c = decide (a.toNat + b.toNat + cin.toNat > 255) := by
  refine ⟨?_, ?_, rfl⟩
  · rw [← add8_r_toNat]
    exact decide_eq_decide.mpr (byte_eq_zero_iff _)
  · simp only [add8, lowNibble_toNat]

theorem sub8_r_toNat (a b : Byte) (cin : Bool) :
    ((sub8 a b cin).r.toNat : Int) = ((a.toNat : Int) - b.toNat - cin.toNat) % 256 :=
  byte_ofInt_toNat _

/-- The flags of a subtraction: zero, and the borrows from bits 4 and 8 with the borrow in (R161). -/
theorem sub8_flags (a b : Byte) (cin : Bool) :
    (sub8 a b cin).z = decide (((a.toNat : Int) - b.toNat - cin.toNat) % 256 = 0) ∧
    (sub8 a b cin).h = decide (a.toNat % 16 < b.toNat % 16 + cin.toNat) ∧
    (sub8 a b cin).c = decide ((a.toNat : Int) - b.toNat - cin.toNat < 0) := by
  refine ⟨decide_eq_decide.mpr (byte_ofInt_eq_zero_iff _), ?_, decide_eq_decide.mpr (by omega)⟩
  simp only [sub8, lowNibble_toNat]

/-- Without a borrow in, the difference is zero exactly when the operands agree, negative exactly when the first is less. -/
theorem sub8_flags_compare (a b : Byte) :
    (sub8 a b false).z = decide (a.toNat = b.toNat) ∧
    (sub8 a b false).h = decide (a.toNat % 16 < b.toNat % 16) ∧
    (sub8 a b false).c = decide (a.toNat < b.toNat) := by
  obtain ⟨hz, hh, -⟩ := sub8_flags a b false
  refine ⟨hz.trans (decide_eq_decide.mpr ?_), hh, rfl⟩
  have := a.isLt
  have := b.isLt
  rw [Bool.toNat_false]
  omega

/-! ### `DAA` -/

theorem daaAdjust_add (a : Byte) (h c : Bool) :
    (daaAdjust a false h c : Int) =
      (if h = true ∨ a.toNat % 16 > 9 then 0x06 else 0) + (if c = true ∨ a.toNat > 0x99 then 0x60 else 0) := by
  simp only [daaAdjust, lowNibble_toNat, Bool.or_eq_true, decide_eq_true_eq, Bool.false_eq_true, if_false]
  split_ifs <;> rfl

theorem daaAdjust_subtract (a : Byte) (h c : Bool) :
    (daaAdjust a true h c : Int) = (if h = true then 0x06 else 0) + (if c = true then 0x60 else 0) := by
  cases h <;> cases c <;> rfl

/-- The result of `DAA` in both branches (R190). -/
theorem daaResult_toNat (a : Byte) (n h c : Bool) :
    ((daaResult a n h c).toNat : Int) =
      if n = true then ((a.toNat : Int) - daaAdjust a true h c) % 256 else ((a.toNat : Int) + daaAdjust a false h c) % 256 := by
  cases n with
  | true => exact byte_ofInt_toNat _
  | false => simp [daaResult]

theorem daaCarry_eq (a : Byte) (n c : Bool) : daaCarry a n c = decide (c = true ∨ (n = false ∧ a.toNat > 0x99)) := by
  simp [daaCarry]

/-! ### The operations -/

/-- What the access of an ALU operand changes: the list of accesses, and the answers still to come. -/
theorem AluOperand.after_eq (s : State) (x : AluOperand) :
    x.after s = { s with
      busAccesses := s.busAccesses ++ x.accesses s
      busAnswers := s.busAnswers.drop ((x.accesses s).countP BusAccess.isRead) } := by
  cases x with
  | reg | imm => simp [AluOperand.accesses, AluOperand.after]
  | atHl => simp [AluOperand.accesses, AluOperand.after, BusAccess.isRead, State.busRead]

/-- The access of an operand has no part in what an ALU operation computes. -/
theorem aluApply_after (op : AluOp) (v : Byte) (s : State) (x : AluOperand) :
    (aluApply op v (x.after s)).a = (aluApply op v s).a ∧ (aluApply op v (x.after s)).f = (aluApply op v s).f := by
  rw [x.after_eq]
  cases op <;> exact ⟨rfl, rfl⟩

theorem alu_completes (op : AluOp) (x : AluOperand) (s : State) :
    ∃ t, exec (x.instr op) s = .next t ∧ t.a = (aluApply op (x.value s) s).a ∧ t.f = (aluApply op (x.value s) s).f
      ∧ ComputesData s t x.cycles [.a] [] (x.accesses s) := by
  have hdata : DataUpdates s ((aluApply op (x.value s) (x.after s)).setCycles x.cycles) :=
    ((x.after_data s).aluApply _ _).setCycles _
  obtain ⟨ha, hf⟩ := aluApply_after op (x.value s) s x
  refine Form.exec_completes (.alu op x) ⟨_, rfl, ha, hf, rfl, ?_, ?_, hdata.keepsControl, ?_⟩
  · simp [x.after_eq]
  · simp [x.after_eq]
  · refine .of_mem_eq (fun r hr => ?_) (by simp [x.after_eq]) (by simp [x.after_eq]) (by simp [x.after_eq])
    have hne : r ≠ .a := by simpa using hr
    rw [State.getReg_setCycles, getReg_aluApply _ _ _ hne, x.after_eq]
    cases r <;> rfl

/-- A register that holds its old value need not be listed as written. -/
theorem Frame.of_register_eq {s t : State} {r : Reg8} {written : List Reg8} {stored : List (Word × Byte)}
    {accesses : List BusAccess} (h : Frame s t (r :: written) stored accesses) (hr : t.getReg r = s.getReg r) :
    Frame s t written stored accesses := by
  refine ⟨fun y hy => ?_, h.otherBytes, h.storedBytes, h.busAccesses, h.busAnswers⟩
  by_cases hyr : y = r
  · rw [hyr, hr]
  · exact h.registers y (by simp [hyr, hy])

theorem setReg_setFlags_completes (r : Reg8) (v : Byte) (z n h c : Bool) (s : State) :
    ∃ t, retire 1 ((s.setReg r v).setFlags z n h c) = .next t ∧ t.getReg r = v ∧ FlagsAre t z n h c
      ∧ ComputesData s t 1 [r] [] [] := by
  have hdata : DataUpdates s (((s.setReg r v).setFlags z n h c).setCycles 1) :=
    ((DataUpdates.refl.setReg _ _).setFlags _ _ _ _).setCycles _
  refine ⟨_, rfl, by simp, flagsAre_of_f rfl, rfl, by simp, by simp, hdata.keepsControl, ?_⟩
  refine .of_mem_eq (fun y hy => ?_) (by simp) (by simp) (by simp)
  have hne : y ≠ r := by simpa using hy
  simp [State.getReg_setReg_other s v hne]

theorem setFlags_completes (z n h c : Bool) (s : State) :
    ∃ t, retire 1 (s.setFlags z n h c) = .next t ∧ FlagsAre t z n h c ∧ ComputesData s t 1 [] [] [] := by
  have hdata : DataUpdates s ((s.setFlags z n h c).setCycles 1) := (DataUpdates.refl.setFlags _ _ _ _).setCycles _
  exact ⟨_, rfl, flagsAre_of_f rfl, rfl, rfl, rfl, hdata.keepsControl, .of_mem_eq (fun _ _ => by simp) rfl (by simp) rfl⟩

/-- The byte at `HL` is read, then `w` is written over it. -/
theorem rewriteAtHl_completes (w : Byte) (z n h c : Bool) (s : State) :
    ∃ t, retire 3 (((s.busRead s.hl).busWrite s.hl w).setFlags z n h c) = .next t ∧ FlagsAre t z n h c
      ∧ ComputesData s t 3 [] [(s.hl, w)] [.read s.hl (s.busValue s.hl), .write s.hl w] := by
  have hdata : DataUpdates s ((((s.busRead s.hl).busWrite s.hl w).setFlags z n h c).setCycles 3) :=
    (((DataUpdates.refl.busRead _).busWrite _ _).setFlags _ _ _ _).setCycles _
  exact ⟨_, rfl, flagsAre_of_f rfl, rfl, rfl, rfl, hdata.keepsControl,
    .of_write (fun _ _ => by simp) rfl (by simp) (by simp [List.countP_cons, BusAccess.isRead])⟩

/-! ### The encodings -/

theorem AluOperand.encode_instr (op : AluOp) (x : AluOperand) : encode (x.instr op) = x.bytes op := by
  cases x with
  | reg r => cases op <;> cases r <;> rfl
  | atHl | imm => cases op <;> rfl

theorem encode_incReg (r : Reg8) : encode (.incReg r) = [0x04 + 8 * r.code] := by
  cases r <;> rfl

theorem encode_decReg (r : Reg8) : encode (.decReg r) = [0x05 + 8 * r.code] := by
  cases r <;> rfl

/-! ### The additions and subtractions of `A` -/

/-- `ADD` and `ADC` are one addition, which differ in the carry in. -/
theorem aluApply_add (withCarry : Bool) (v : Byte) (s : State) :
    aluApply (if withCarry then .adc else .add) v s =
      let sum := add8 s.a v (withCarry && s.cy)
      (s.setReg .a sum.r).setFlags sum.z false sum.h sum.c := by
  cases withCarry <;> rfl

/-- `SUB` and `SBC` are one subtraction, which differ in the borrow in. -/
theorem aluApply_sub (withBorrow : Bool) (v : Byte) (s : State) :
    aluApply (if withBorrow then .sbc else .sub) v s =
      let difference := sub8 s.a v (withBorrow && s.cy)
      (s.setReg .a difference.r).setFlags difference.z true difference.h difference.c := by
  cases withBorrow <;> rfl

theorem toNat_and_eq_ite (x y : Bool) : (x && y).toNat = if x then y.toNat else 0 := by
  cases x <;> rfl

/-- Settles O13: the adder with the carry in of the instruction. -/
theorem addAndAddWithCarry : Obligations.AddAndAddWithCarry := by
  intro withCarry x s op a b cin
  obtain ⟨t, hexec, ha, hf, hrest⟩ := alu_completes op x s
  obtain ⟨hz, hh, hc⟩ := add8_flags s.a (x.value s) (withCarry && s.cy)
  have hr := add8_r_toNat s.a (x.value s) (withCarry && s.cy)
  rw [toNat_and_eq_ite] at hr hz hh hc
  rw [aluApply_add] at ha hf
  refine ⟨x.encode_instr op, t, hexec, ?_, ?_, hrest⟩
  · rw [ha]
    exact hr
  · rw [← hz, ← hh, ← hc]
    exact flagsAre_of_f hf

/-- Settles O14: the subtractor with the borrow in of the instruction. -/
theorem subtractAndSubtractWithBorrow : Obligations.SubtractAndSubtractWithBorrow := by
  intro withBorrow x s op a b cin d
  obtain ⟨t, hexec, ha, hf, hrest⟩ := alu_completes op x s
  obtain ⟨hz, hh, hc⟩ := sub8_flags s.a (x.value s) (withBorrow && s.cy)
  have hr := sub8_r_toNat s.a (x.value s) (withBorrow && s.cy)
  rw [toNat_and_eq_ite] at hr hz hh hc
  rw [aluApply_sub] at ha hf
  refine ⟨x.encode_instr op, t, hexec, ?_, ?_, hrest⟩
  · rw [ha]
    exact hr
  · rw [← hz, ← hh, ← hc]
    exact flagsAre_of_f hf

/-- Settles O15: the flags of the subtraction without a borrow in; `A` keeps its value. -/
theorem compareWritesFlagsOnly : Obligations.CompareWritesFlagsOnly := by
  intro x s a b
  obtain ⟨t, hexec, ha, hf, hcycles, hsp, hpc, hcontrol, hframe⟩ := alu_completes .cp x s
  obtain ⟨hz, hh, hc⟩ := sub8_flags_compare s.a (x.value s)
  refine ⟨x.encode_instr .cp, t, hexec, ?_, hcycles, hsp, hpc, hcontrol, hframe.of_register_eq ha⟩
  rw [← hz, ← hh, ← hc]
  exact flagsAre_of_f hf

/-! ### The logic operations -/

/-- Settles O16: the bitwise result; the result of `XOR` is zero for equal operands, that of `OR` for two zero ones. -/
theorem logicOperations : Obligations.LogicOperations := by
  intro x s b
  refine ⟨⟨x.encode_instr .and, ?_⟩, ⟨x.encode_instr .xor, ?_⟩, x.encode_instr .or, ?_⟩
  · obtain ⟨t, hexec, ha, hf, hrest⟩ := alu_completes .and x s
    exact ⟨t, hexec, ha, flagsAre_of_f hf, hrest⟩
  · obtain ⟨t, hexec, ha, hf, hrest⟩ := alu_completes .xor x s
    refine ⟨t, hexec, ha, ?_, hrest⟩
    have hz : s.a ^^^ b = 0 ↔ s.a = b := BitVec.xor_eq_zero_iff
    rw [← decide_eq_decide.mpr hz]
    exact flagsAre_of_f hf
  · obtain ⟨t, hexec, ha, hf, hrest⟩ := alu_completes .or x s
    refine ⟨t, hexec, ha, ?_, hrest⟩
    have hz : s.a ||| b = 0 ↔ s.a = 0 ∧ b = 0 := BitVec.or_eq_zero_iff
    rw [← decide_eq_decide.mpr hz]
    exact flagsAre_of_f hf

/-! ### Increment and decrement -/

theorem incFlags_eq (v : Byte) (s : State) :
    incFlags v s = s.setFlags (decide (v.toNat = 255)) false (decide (v.toNat % 16 = 15)) s.cy := by
  have hz : v + 1 = 0 ↔ v.toNat = 255 := by bv_omega
  have hh : v &&& 0x0F = 0x0F ↔ v.toNat % 16 = 15 := by
    rw [← lowNibble_toNat, ← BitVec.toNat_inj]
    rfl
  rw [incFlags, decide_eq_decide.mpr hz, decide_eq_decide.mpr hh]

theorem decFlags_eq (v : Byte) (s : State) :
    decFlags v s = s.setFlags (decide (v.toNat = 1)) true (decide (v.toNat % 16 = 0)) s.cy := by
  have hz : v - 1 = 0 ↔ v.toNat = 1 := by bv_omega
  have hh : v &&& 0x0F = 0x00 ↔ v.toNat % 16 = 0 := by
    rw [← lowNibble_toNat, byte_eq_zero_iff]
  rw [decFlags, decide_eq_decide.mpr hz, decide_eq_decide.mpr hh]

@[simp] theorem State.cy_setReg (r : Reg8) (v : Byte) (s : State) : (s.setReg r v).cy = s.cy := by
  rw [State.cy, State.setReg_f, State.cy]

theorem byte_sub_one_toNat (v : Byte) : ((v - 1).toNat : Int) = ((v.toNat : Int) - 1) % 256 := by bv_omega

theorem incReg_completes (r : Reg8) (s : State) :
    ∃ t, incReg r s = .next t ∧ t.getReg r = s.getReg r + 1
      ∧ FlagsAre t (decide ((s.getReg r).toNat = 255)) false (decide ((s.getReg r).toNat % 16 = 15)) s.cy
      ∧ ComputesData s t 1 [r] [] [] := by
  rw [incReg, incFlags_eq, State.cy_setReg]
  exact setReg_setFlags_completes ..

theorem decReg_completes (r : Reg8) (s : State) :
    ∃ t, decReg r s = .next t ∧ t.getReg r = s.getReg r - 1
      ∧ FlagsAre t (decide ((s.getReg r).toNat = 1)) true (decide ((s.getReg r).toNat % 16 = 0)) s.cy
      ∧ ComputesData s t 1 [r] [] [] := by
  rw [decReg, decFlags_eq, State.cy_setReg]
  exact setReg_setFlags_completes ..

/-- Settles O17: the register set to its successor or predecessor, with the flags of the step. -/
theorem incrementDecrementRegister : Obligations.IncrementDecrementRegister := by
  intro r s v
  refine ⟨⟨encode_incReg r, ?_⟩, encode_decReg r, ?_⟩
  · obtain ⟨t, hexec, hr, hrest⟩ := Form.exec_completes (.incReg r) (incReg_completes r s)
    exact ⟨t, hexec, hr ▸ BitVec.toNat_add _ 1, hrest⟩
  · obtain ⟨t, hexec, hr, hrest⟩ := Form.exec_completes (.decReg r) (decReg_completes r s)
    exact ⟨t, hexec, hr ▸ byte_sub_one_toNat _, hrest⟩

theorem incAtHl_completes (s : State) :
    ∃ t, incAtHl s = .next t
      ∧ FlagsAre t (decide ((s.busValue s.hl).toNat = 255)) false (decide ((s.busValue s.hl).toNat % 16 = 15)) s.cy
      ∧ ComputesData s t 3 [] [(s.hl, s.busValue s.hl + 1)]
          [.read s.hl (s.busValue s.hl), .write s.hl (s.busValue s.hl + 1)] := by
  rw [incAtHl, incFlags_eq]
  exact rewriteAtHl_completes ..

theorem decAtHl_completes (s : State) :
    ∃ t, decAtHl s = .next t
      ∧ FlagsAre t (decide ((s.busValue s.hl).toNat = 1)) true (decide ((s.busValue s.hl).toNat % 16 = 0)) s.cy
      ∧ ComputesData s t 3 [] [(s.hl, s.busValue s.hl - 1)]
          [.read s.hl (s.busValue s.hl), .write s.hl (s.busValue s.hl - 1)] := by
  rw [decAtHl, decFlags_eq]
  exact rewriteAtHl_completes ..

/-- Settles O18: the byte at `HL` written back as its successor or predecessor, with the flags of the step. -/
theorem incrementDecrementAtHl : Obligations.IncrementDecrementAtHl := fun s =>
  ⟨⟨rfl, Form.exec_completes .incAtHl (incAtHl_completes s)⟩, rfl, Form.exec_completes .decAtHl (decAtHl_completes s)⟩

/-! ### `DAA`, `CPL`, `SCF`, `CCF` -/

/-- Settles O19: the two corrections of R190 and the flags of the result. -/
theorem daaDecimalAdjust : Obligations.DecimalAdjust := by
  intro s a up down r
  obtain ⟨t, hexec, ha, hflags, hrest⟩ :=
    Form.exec_completes .daa (setReg_setFlags_completes .a (daaResult s.a s.nf s.hf s.cy) _ _ _ _ s)
  have hr : ((daaResult s.a s.nf s.hf s.cy).toNat : Int) = r := by
    rw [daaResult_toNat, daaAdjust_add, daaAdjust_subtract]
  have hz : daaResult s.a s.nf s.hf s.cy = 0 ↔ r = 0 := by
    rw [byte_eq_zero_iff, ← hr, Int.natCast_eq_zero]
  refine ⟨rfl, t, hexec, ?_, ?_, hrest⟩
  · rw [← hr, ← ha]
    rfl
  · rw [← decide_eq_decide.mpr hz, ← daaCarry_eq]
    exact hflags

theorem complement_toNat (v : Byte) : (v ^^^ 0xFF).toNat = 255 - v.toNat :=
  (congrArg BitVec.toNat BitVec.xor_allOnes).trans (BitVec.toNat_not ..)

/-- Settles O20: `CPL` sets `A` and the flags, `SCF` and `CCF` the flags alone. -/
theorem complementAndCarryFlagOperations : Obligations.ComplementAndCarryFlagOperations := by
  intro s
  refine ⟨⟨rfl, ?_⟩, ⟨rfl, Form.exec_completes .scf (setFlags_completes ..)⟩,
    rfl, Form.exec_completes .ccf (setFlags_completes ..)⟩
  obtain ⟨t, hexec, ha, hrest⟩ := Form.exec_completes .cpl (setReg_setFlags_completes .a (s.a ^^^ 0xFF) _ _ _ _ s)
  exact ⟨t, hexec, (congrArg BitVec.toNat ha).trans (complement_toNat s.a), hrest⟩

end Sys2Proof.Machine
end

section
/-! 43_alu16.md: the 16-bit arithmetic, with `LD HL,SP+e`. Every instruction is one of three operations: `HL` set with the four
flags, `SP` set with the four flags, and a pair set with no flag. Each operation gets one statement of what it writes and keeps;
the two adders get their arithmetic on plain numbers. -/

namespace Sys2Proof.Machine

/-! ### Arithmetic on words -/

/-- A mask of `k` ones takes the remainder by `2 ^ k`. -/
theorem and_lowBits_toNat {width k : Nat} {mask : BitVec width} (hmask : mask.toNat = 2 ^ k - 1) (v : BitVec width) :
    (v &&& mask).toNat = v.toNat % 2 ^ k := by
  rw [BitVec.toNat_and, hmask, Nat.and_two_pow_sub_one_eq_mod]

theorem word_ofInt_toNat (d : Int) : ((BitVec.ofInt 16 d).toNat : Int) = d % 65536 := by
  rw [BitVec.toNat_ofInt]
  exact Int.toNat_of_nonneg (Int.emod_nonneg d (by decide))

theorem word_sub_one_toNat (w : Word) : ((w - 1).toNat : Int) = ((w.toNat : Int) - 1) % 65536 := by bv_omega

theorem signed8_eq_toInt (e : Byte) : signed8 e = e.toInt := by
  revert e
  decide

theorem add16_r_toNat (a b : Word) : (add16 a b).r.toNat = (a.toNat + b.toNat) % 65536 :=
  BitVec.toNat_ofNat _ _

/-- The carries of the 16-bit addition, out of bits 11 and 15 (R210). -/
theorem add16_carries (a b : Word) :
    (add16 a b).h = decide (a.toNat % 4096 + b.toNat % 4096 > 4095) ∧
    (add16 a b).c = decide (a.toNat + b.toNat > 65535) := by
  have hmask : (0x0FFF : Word).toNat = 2 ^ 12 - 1 := rfl
  simp only [add16, and_lowBits_toNat hmask, Nat.reducePow, and_self]

theorem addSpE_r_toNat (sp : Word) (e : Byte) :
    ((addSpE sp e).r.toNat : Int) = ((sp.toNat : Int) + e.toInt) % 65536 := by
  rw [← signed8_eq_toInt]
  exact word_ofInt_toNat _

/-- The carries of `SP + e`, out of bits 3 and 7 of the unsigned sum with the low byte of `SP` (R214). -/
theorem addSpE_carries (sp : Word) (e : Byte) :
    (addSpE sp e).h = decide (sp.toNat % 16 + e.toNat % 16 > 15) ∧
    (addSpE sp e).c = decide (sp.toNat % 256 + e.toNat > 255) := by
  have hnibble : (0x000F : Word).toNat = 2 ^ 4 - 1 := rfl
  have hbyte : (0x00FF : Word).toNat = 2 ^ 8 - 1 := rfl
  simp only [addSpE, and_lowBits_toNat hnibble, and_lowBits_toNat hbyte, lowNibble_toNat, Nat.reducePow, and_self]

/-! ### The operations -/

theorem setHl_setFlags_completes (w : Word) (z n h c : Bool) (cycles : Nat) (s : State) :
    ∃ t, retire cycles ((s.setHl w).setFlags z n h c) = .next t ∧ t.hl = w ∧ FlagsAre t z n h c
      ∧ ComputesData s t cycles [.h, .l] [] [] := by
  have hdata : DataUpdates s (((s.setHl w).setFlags z n h c).setCycles cycles) :=
    ((DataUpdates.refl.setHl _).setFlags _ _ _ _).setCycles _
  refine ⟨_, rfl, ofBytes_hi8_lo8 w, flagsAre_of_f rfl, rfl, rfl, rfl, hdata.keepsControl, ?_⟩
  exact .of_mem_eq (fun r hr => by simp [State.getReg_setHl_other s w hr]) rfl (by simp) rfl

theorem setSp_setFlags_completes (w : Word) (z n h c : Bool) (cycles : Nat) (s : State) :
    ∃ t, retire cycles ((s.setSp w).setFlags z n h c) = .next t ∧ t.sp = w ∧ FlagsAre t z n h c
      ∧ t.stepCycles = cycles ∧ t.pc = s.pc ∧ KeepsControl s t ∧ Frame s t [] [] [] := by
  have hdata : DataUpdates s (((s.setSp w).setFlags z n h c).setCycles cycles) :=
    ((DataUpdates.refl.setSp _).setFlags _ _ _ _).setCycles _
  exact ⟨_, rfl, rfl, flagsAre_of_f rfl, rfl, rfl, hdata.keepsControl, .of_mem_eq (fun _ _ => by simp) rfl (by simp) rfl⟩

/-- A pair is set from its own value: `INC rr` and `DEC rr`. -/
theorem updatePair_completes (p : Pair16) (g : Word → Word) (s : State) :
    ∃ t, retire 2 (s.setPair p (g (s.getPair p))) = .next t ∧ t.getPair p = g (s.getPair p) ∧ t.stepCycles = 2 ∧ t.f = s.f
      ∧ t.sp = (if p = .sp then g s.sp else s.sp) ∧ t.pc = s.pc ∧ KeepsControl s t ∧ Frame s t p.regs [] [] := by
  have hdata : DataUpdates s ((s.setPair p (g (s.getPair p))).setCycles 2) := (DataUpdates.refl.setPair _ _).setCycles _
  refine ⟨_, rfl, s.getPair_setPair p _, rfl, by simp, by cases p <;> rfl, by simp, hdata.keepsControl, ?_⟩
  exact .of_mem_eq (fun r hr => by simp [State.getReg_setPair_other s _ hr]) (by simp) (by simp) (by simp)

/-! ### The encodings -/

theorem encode_addHlPair (p : Pair16) : encode (.addHlPair p) = [0x09 + 16 * p.code] := by
  cases p <;> rfl

theorem encode_incPair (p : Pair16) : encode (.incPair p) = [0x03 + 16 * p.code] := by
  cases p <;> rfl

theorem encode_decPair (p : Pair16) : encode (.decPair p) = [0x0B + 16 * p.code] := by
  cases p <;> rfl

/-! ### The instructions -/

/-- Settles O9: both instructions use the adder of R214, one sets `SP` and the other `HL` with its sum and carries. -/
theorem stackPointerPlusDisplacement : Obligations.StackPointerPlusDisplacement := by
  intro e s h c
  obtain ⟨hh, hc⟩ : (addSpE s.sp e).h = h ∧ (addSpE s.sp e).c = c := addSpE_carries s.sp e
  rw [← addSpE_r_toNat, ← hh, ← hc]
  refine ⟨⟨rfl, ?_⟩, rfl, ?_⟩
  · obtain ⟨t, hexec, hsp, hrest⟩ := Form.exec_completes (.addSpE e) (setSp_setFlags_completes _ _ _ _ _ 4 s)
    exact ⟨t, hexec, by rw [hsp], hrest⟩
  · obtain ⟨t, hexec, hhl, hrest⟩ := Form.exec_completes (.ldHlSpE e) (setHl_setFlags_completes _ _ _ _ _ 3 s)
    exact ⟨t, hexec, by rw [hhl], hrest⟩

/-- Settles O21: the sum and the carries of the 16-bit adder, with `Z` passed its own value. -/
theorem addPairToHl : Obligations.AddPairToHl := by
  intro p s x y
  obtain ⟨hh, hc⟩ := add16_carries s.hl (s.getPair p)
  obtain ⟨t, hexec, hhl, hflags, hrest⟩ :=
    Form.exec_completes (.addHlPair p) (setHl_setFlags_completes _ _ _ _ _ 2 s)
  refine ⟨encode_addHlPair p, t, hexec, ?_, ?_, hrest⟩
  · rw [hhl]
    exact add16_r_toNat _ _
  · rw [← hh, ← hc]
    exact hflags

/-- Settles O22: the pair set to its successor or predecessor, and nothing else. -/
theorem incrementDecrementPair : Obligations.IncrementDecrementPair := by
  intro p s v
  refine ⟨⟨encode_incPair p, ?_⟩, encode_decPair p, ?_⟩
  · obtain ⟨t, hexec, hpair, hrest⟩ := Form.exec_completes (.incPair p) (updatePair_completes p (· + 1) s)
    exact ⟨t, hexec, hpair ▸ BitVec.toNat_add _ 1, hrest⟩
  · obtain ⟨t, hexec, hpair, hrest⟩ := Form.exec_completes (.decPair p) (updatePair_completes p (· - 1) s)
    exact ⟨t, hexec, hpair ▸ word_sub_one_toNat _, hrest⟩

end Sys2Proof.Machine
end

section
/-! 44_rotate_shift_bit.md: the rotates, the shifts and the bit operations. A rotate, a shift or a bit test writes the four
flags, a change of one bit writes none; the operand is a register or the byte at `HL`, and all but the bit test write it back.
The function table of R224 gets its arithmetic on plain numbers, a change of a bit its result bit by bit. -/

namespace Sys2Proof.Machine

/-! ### The function table (R224) -/

theorem shiftLeft_toNat (v : Byte) (k : Nat) : (v <<< k).toNat = v.toNat * 2 ^ k % 256 := by
  rw [BitVec.toNat_shiftLeft, Nat.shiftLeft_eq]

theorem shiftRight_toNat (v : Byte) (k : Nat) : (v >>> k).toNat = v.toNat / 2 ^ k := by
  rw [BitVec.toNat_ushiftRight, Nat.shiftRight_eq_div_pow]

theorem and_one_toNat (v : Byte) : (v &&& 1).toNat = v.toNat % 2 := by
  rw [BitVec.toNat_and]
  exact Nat.and_one_is_mod _

theorem and_topBit_toNat (v : Byte) : (v &&& 0x80).toNat = v.toNat / 128 * 128 := by
  have hv := v.isLt
  have hbit : (v &&& 0x80).toNat = v.toNat / 2 ^ 7 % 2 * 2 ^ 7 := by
    rw [← Nat.toNat_testBit, ← Nat.and_two_pow]
    exact BitVec.toNat_and ..
  omega

/-- The union of a multiple of `2 ^ k` and a byte below `2 ^ k` is their sum. -/
theorem or_toNat_of_disjoint {hi lo : Byte} (k : Nat) (hhi : hi.toNat % 2 ^ k = 0) (hlo : lo.toNat < 2 ^ k) :
    (hi ||| lo).toNat = hi.toNat + lo.toNat := by
  obtain ⟨q, hq⟩ := Nat.dvd_of_mod_eq_zero hhi
  rw [BitVec.toNat_or, hq, Nat.two_pow_add_eq_or_of_lt hlo]

/-- A bit moved in at the bottom of a left shift. -/
theorem shiftLeft_or_toNat (v : Byte) {bit : Byte} (hbit : bit.toNat < 2) :
    ((v <<< 1) ||| bit).toNat = v.toNat * 2 % 256 + bit.toNat := by
  have hv : (v <<< 1).toNat = v.toNat * 2 % 256 := shiftLeft_toNat v 1
  rw [or_toNat_of_disjoint 1 (by omega) hbit, hv]

/-- A bit moved in at the top of a right shift. -/
theorem shiftRight_or_toNat (v : Byte) {bit : Byte} (hbit : bit.toNat % 128 = 0) :
    ((v >>> 1) ||| bit).toNat = v.toNat / 2 + bit.toNat := by
  have hv : (v >>> 1).toNat = v.toNat / 2 := shiftRight_toNat v 1
  rw [BitVec.or_comm, or_toNat_of_disjoint 7 hbit (by omega), hv, Nat.add_comm]

theorem getLsbD_eq_decide (v : Byte) (k : Nat) : v.getLsbD k = decide (v.toNat / 2 ^ k % 2 = 1) :=
  Nat.testBit_eq_decide_div_mod_eq

/-- The result of each function, on plain numbers: a rotate moves one bit in at an end, `SWAP` joins two nibbles. -/
theorem rotate_toNat (op : RotOp) (v : Byte) (cin : Bool) :
    (rotate op v cin).1.toNat = (op.onNat v.toNat cin.toNat).1 := by
  have hv := v.isLt
  cases op with
  | rlc =>
    have hbit := shiftRight_toNat v 7
    exact (shiftLeft_or_toNat v (by omega)).trans (congrArg _ hbit)
  | rrc =>
    have hbit : ((v &&& 1) <<< 7).toNat = v.toNat % 2 * 128 := by
      rw [shiftLeft_toNat, and_one_toNat]
      omega
    exact (shiftRight_or_toNat v (by omega)).trans (congrArg _ hbit)
  | rl => cases cin <;> exact shiftLeft_or_toNat v (by decide)
  | rr => cases cin <;> exact shiftRight_or_toNat v (by decide)
  | sla => exact shiftLeft_toNat v 1
  | sra =>
    have hbit := and_topBit_toNat v
    exact (shiftRight_or_toNat v (by omega)).trans (congrArg _ hbit)
  | swap =>
    have hhi : ((v &&& 0x0F) <<< 4).toNat = v.toNat % 16 * 16 := by
      rw [shiftLeft_toNat, lowNibble_toNat]
      omega
    have hlo := shiftRight_toNat v 4
    exact (or_toNat_of_disjoint 4 (by omega) (by omega)).trans (congrArg₂ _ hhi hlo)
  | srl => exact shiftRight_toNat v 1

/-- The bit moved out by each function, on plain numbers. -/
theorem rotate_movedOut (op : RotOp) (v : Byte) (cin : Bool) :
    (rotate op v cin).2 = decide ((op.onNat v.toNat cin.toNat).2 = 1) := by
  have hv := v.isLt
  cases op with
  | rlc | rl | sla | rrc | rr | sra | srl =>
    refine (getLsbD_eq_decide v _).trans (decide_eq_decide.mpr ?_)
    simp only [RotOp.onNat]
    omega
  | swap => rfl

/-- The zero test of the result, on plain numbers. -/
theorem rotate_isZero (op : RotOp) (v : Byte) (cin : Bool) :
    decide ((rotate op v cin).1 = 0) = decide ((op.onNat v.toNat cin.toNat).1 = 0) := by
  rw [← rotate_toNat]
  exact decide_eq_decide.mpr (byte_eq_zero_iff _)

/-- The result as a byte, from the plain number. -/
theorem rotate_eq_ofNat (op : RotOp) (v : Byte) (cin : Bool) :
    (rotate op v cin).1 = BitVec.ofNat 8 (op.onNat v.toNat cin.toNat).1 := by
  rw [← rotate_toNat, BitVec.ofNat_toNat, BitVec.setWidth_eq]

/-! ### The bits of a byte -/

theorem not_getLsbD_eq_decide (v : Byte) (k : Nat) : (!v.getLsbD k) = decide (v.toNat / 2 ^ k % 2 = 0) := by
  rw [getLsbD_eq_decide, ← decide_not]
  exact decide_eq_decide.mpr (by omega)

theorem getLsbD_oneBit (b j : Nat) (hj : j < 8) : ((0x01 : Byte) <<< b).getLsbD j = decide (j = b) := by
  rw [show (0x01 : Byte) <<< b = BitVec.twoPow 8 b from rfl, BitVec.getLsbD_twoPow]
  by_cases h : j = b
  · simp [← h, hj]
  · simp [h, Ne.symm h]

theorem clearBit_getLsbD (b : Nat) (v : Byte) (j : Nat) (hj : j < 8) :
    (clearBit b v).getLsbD j = if j = b then false else v.getLsbD j := by
  have hones : (0xFF : Byte).getLsbD j = true := (BitVec.getLsbD_allOnes (v := 8)).trans (decide_eq_true hj)
  rw [clearBit, BitVec.getLsbD_and, BitVec.getLsbD_xor, hones, getLsbD_oneBit b j hj]
  by_cases h : j = b <;> simp [h]

theorem assertBit_getLsbD (b : Nat) (v : Byte) (j : Nat) (hj : j < 8) :
    (assertBit b v).getLsbD j = if j = b then true else v.getLsbD j := by
  rw [assertBit, BitVec.getLsbD_or, getLsbD_oneBit b j hj]
  by_cases h : j = b <;> simp [h]

/-! ### The operations -/

/-- The duration is no part of what is computed: another one may be reported. -/
theorem ComputesData.setCycles {s u : State} {m : Nat} {written : List Reg8} {stored : List (Word × Byte)}
    {accesses : List BusAccess} (h : ComputesData s u m written stored accesses) (n : Nat) :
    ComputesData s (u.setCycles n) n written stored accesses := by
  obtain ⟨-, hsp, hpc, hcontrol, hframe⟩ := h
  refine ⟨rfl, hsp, hpc, ?_, ?_⟩
  · exact ⟨hcontrol.ime, hcontrol.imeSched, hcontrol.haltBug, hcontrol.runState, hcontrol.cycleCount, hcontrol.fault,
      hcontrol.stopWake, hcontrol.config⟩
  · exact ⟨fun r hr => (u.getReg_setCycles n r).trans (hframe.registers r hr), hframe.otherBytes, hframe.storedBytes,
      hframe.busAccesses, hframe.busAnswers⟩

theorem rotateA_completes (op : RotOp) (s : State) :
    ∃ t, rotateA op s = .next t ∧ t.a.toNat = (op.onNat s.a.toNat s.cy.toNat).1
      ∧ FlagsAre t false false false (decide ((op.onNat s.a.toNat s.cy.toNat).2 = 1)) ∧ ComputesData s t 1 [.a] [] [] := by
  rw [← rotate_toNat, ← rotate_movedOut]
  obtain ⟨t, hrun, ha, hrest⟩ :=
    setReg_setFlags_completes .a (rotate op s.a s.cy).1 false false false (rotate op s.a s.cy).2 s
  exact ⟨t, hrun, congrArg BitVec.toNat ha, hrest⟩

theorem rotateReg_completes (op : RotOp) (r : Reg8) (s : State) :
    let x := op.onNat (s.getReg r).toNat s.cy.toNat
    ∃ t, rotateReg op r s = .next t ∧ (t.getReg r).toNat = x.1
      ∧ FlagsAre t (decide (x.1 = 0)) false false (decide (x.2 = 1)) ∧ ComputesData s t 2 [r] [] [] := by
  dsimp only
  rw [← rotate_isZero, ← rotate_movedOut, ← rotate_toNat]
  obtain ⟨t, hrun, hr, -, hdata⟩ := setReg_setFlags_completes r (rotate op (s.getReg r) s.cy).1
    (decide ((rotate op (s.getReg r) s.cy).1 = 0)) false false (rotate op (s.getReg r) s.cy).2 s
  cases hrun
  exact ⟨_, rfl, congrArg BitVec.toNat hr, flagsAre_of_f rfl, hdata.setCycles 2⟩

theorem rotateAtHl_completes (op : RotOp) (s : State) :
    let v := s.busValue s.hl
    let x := op.onNat v.toNat s.cy.toNat
    ∃ t, rotateAtHl op s = .next t ∧ FlagsAre t (decide (x.1 = 0)) false false (decide (x.2 = 1))
      ∧ ComputesData s t 4 [] [(s.hl, BitVec.ofNat 8 x.1)] [.read s.hl v, .write s.hl (BitVec.ofNat 8 x.1)] := by
  dsimp only
  rw [← rotate_isZero, ← rotate_movedOut, ← rotate_eq_ofNat]
  obtain ⟨t, hrun, -, hdata⟩ := rewriteAtHl_completes (rotate op (s.busValue s.hl) s.cy).1
    (decide ((rotate op (s.busValue s.hl) s.cy).1 = 0)) false false (rotate op (s.busValue s.hl) s.cy).2 s
  cases hrun
  exact ⟨_, rfl, flagsAre_of_f rfl, hdata.setCycles 4⟩

theorem bitReg_completes (b : Nat) (r : Reg8) (s : State) :
    ∃ t, bitReg b r s = .next t ∧ FlagsAre t (decide ((s.getReg r).toNat / 2 ^ b % 2 = 0)) false true s.cy
      ∧ ComputesData s t 2 [] [] [] := by
  rw [← not_getLsbD_eq_decide]
  obtain ⟨t, hrun, -, hdata⟩ := setFlags_completes (!(s.getReg r).getLsbD b) false true s.cy s
  cases hrun
  exact ⟨_, rfl, flagsAre_of_f rfl, hdata.setCycles 2⟩

/-- The carry kept is the one of `s`: the read of the operand does not change `F`. -/
theorem bitAtHl_completes (b : Nat) (s : State) :
    ∃ t, bitAtHl b s = .next t ∧ FlagsAre t (decide ((s.busValue s.hl).toNat / 2 ^ b % 2 = 0)) false true s.cy
      ∧ ComputesData s t 3 [] [] [.read s.hl (s.busValue s.hl)] := by
  rw [← not_getLsbD_eq_decide]
  have hdata : DataUpdates s ((bitFlags b (s.busValue s.hl) (s.busRead s.hl)).setCycles 3) :=
    ((DataUpdates.refl.busRead _).setFlags _ _ _ _).setCycles _
  exact ⟨_, rfl, flagsAre_of_f rfl, rfl, rfl, rfl, hdata.keepsControl,
    .of_mem_eq (fun _ _ => by simp) rfl rfl (by simp [BusAccess.isRead])⟩

/-- The byte at `HL` is read, then `w` is written over it, and no flag changes. -/
theorem replaceAtHl_completes (w : Byte) (s : State) :
    ∃ t, retire 4 ((s.busRead s.hl).busWrite s.hl w) = .next t
      ∧ MovesData s t 4 [] [(s.hl, w)] [.read s.hl (s.busValue s.hl), .write s.hl w] := by
  have hdata : DataUpdates s (((s.busRead s.hl).busWrite s.hl w).setCycles 4) :=
    ((DataUpdates.refl.busRead _).busWrite _ _).setCycles _
  exact ⟨_, rfl, rfl, rfl, rfl, rfl, hdata.keepsControl,
    .of_write (fun _ _ => by simp) rfl (by simp) (by simp [List.countP_cons, BusAccess.isRead])⟩

/-! ### The encodings -/

theorem encode_rotReg (op : RotOp) (r : Reg8) : encode (.rotReg op r) = [0xCB, 8 * op.code + r.code] := by
  cases op <;> cases r <;> rfl

theorem encode_rotAtHl (op : RotOp) : encode (.rotAtHl op) = [0xCB, 0x06 + 8 * op.code] := by
  cases op <;> rfl

theorem encode_bitReg (b : Fin 8) (r : Reg8) : encode (.bitReg b r) = [0xCB, 0x40 + 8 * BitVec.ofNat 8 b + r.code] := by
  fin_cases b <;> cases r <;> rfl

theorem encode_bitAtHl (b : Fin 8) : encode (.bitAtHl b) = [0xCB, 0x46 + 8 * BitVec.ofNat 8 b] := by
  fin_cases b <;> rfl

theorem encode_resReg (b : Fin 8) (r : Reg8) : encode (.resReg b r) = [0xCB, 0x80 + 8 * BitVec.ofNat 8 b + r.code] := by
  fin_cases b <;> cases r <;> rfl

theorem encode_resAtHl (b : Fin 8) : encode (.resAtHl b) = [0xCB, 0x86 + 8 * BitVec.ofNat 8 b] := by
  fin_cases b <;> rfl

theorem encode_setReg (b : Fin 8) (r : Reg8) : encode (.setReg b r) = [0xCB, 0xC0 + 8 * BitVec.ofNat 8 b + r.code] := by
  fin_cases b <;> cases r <;> rfl

theorem encode_setAtHl (b : Fin 8) : encode (.setAtHl b) = [0xCB, 0xC6 + 8 * BitVec.ofNat 8 b] := by
  fin_cases b <;> rfl

/-! ### The instructions -/

/-- Settles O24: each of the four is the rotate of `A` by its function, with the flag `Z` forced to 0. -/
theorem rotateAccumulator : Obligations.RotateAccumulator := by
  intro s p hp
  simp only [List.mem_cons, List.not_mem_nil, or_false] at hp
  rcases hp with rfl | rfl | rfl | rfl
  · exact ⟨rfl, Form.exec_completes .rlca (rotateA_completes .rlc s)⟩
  · exact ⟨rfl, Form.exec_completes .rrca (rotateA_completes .rrc s)⟩
  · exact ⟨rfl, Form.exec_completes .rla (rotateA_completes .rl s)⟩
  · exact ⟨rfl, Form.exec_completes .rra (rotateA_completes .rr s)⟩

/-- Settles O25: the register set to the function's result, with its flags. -/
theorem rotateShiftRegister : Obligations.RotateShiftRegister := fun op r s =>
  ⟨encode_rotReg op r, Form.exec_completes (.rotReg op r) (rotateReg_completes op r s)⟩

/-- Settles O26: the byte at `HL` written back as the function's result, with its flags. -/
theorem rotateShiftAtHl : Obligations.RotateShiftAtHl := fun op s =>
  ⟨encode_rotAtHl op, Form.exec_completes (.rotAtHl op) (rotateAtHl_completes op s)⟩

/-- Settles O27: the flags alone, after a read where the operand is at `HL`. -/
theorem testBit : Obligations.TestBit := fun b s =>
  ⟨fun r => ⟨encode_bitReg b r, Form.exec_completes (.bitReg b r) (bitReg_completes b r s)⟩,
    encode_bitAtHl b, Form.exec_completes (.bitAtHl b) (bitAtHl_completes b s)⟩

/-- Settles O28: both put a byte into the register, which differs from the old one in bit `b` only. -/
theorem resetAndSetRegisterBit : Obligations.ResetAndSetRegisterBit := by
  intro b r s
  refine ⟨⟨encode_resReg b r, ?_⟩, encode_setReg b r, ?_⟩
  · obtain ⟨t, hexec, hr, hrest⟩ :=
      Form.exec_completes (.resReg b r) (loadReg_completes r (clearBit b (s.getReg r)) 2 s)
    exact ⟨t, hexec, hr ▸ clearBit_getLsbD b (s.getReg r), hrest⟩
  · obtain ⟨t, hexec, hr, hrest⟩ :=
      Form.exec_completes (.setReg b r) (loadReg_completes r (assertBit b (s.getReg r)) 2 s)
    exact ⟨t, hexec, hr ▸ assertBit_getLsbD b (s.getReg r), hrest⟩

/-- Settles O29: both write back the byte at `HL`, which differs from the byte read in bit `b` only. -/
theorem resetAndSetBitAtHl : Obligations.ResetAndSetBitAtHl := by
  intro b s v
  refine ⟨⟨encode_resAtHl b, ?_⟩, encode_setAtHl b, ?_⟩
  · obtain ⟨t, hexec, hrest⟩ := Form.exec_completes (.resAtHl b) (replaceAtHl_completes (clearBit b v) s)
    exact ⟨t, clearBit b v, hexec, clearBit_getLsbD b v, hrest⟩
  · obtain ⟨t, hexec, hrest⟩ := Form.exec_completes (.setAtHl b) (replaceAtHl_completes (assertBit b v) s)
    exact ⟨t, assertBit b v, hexec, assertBit_getLsbD b v, hrest⟩

end Sys2Proof.Machine
end

section
/-! 45_control_flow.md: the jumps, calls and returns. A jump sets `PC`, a call pushes it first, a return pops it. Each of the
three gets one statement of what it writes and keeps. A conditional instruction chooses between one of them and nothing, which is
a jump to the `PC` it has; `RETI` is a return in the state with `IME` set. -/

namespace Sys2Proof.Machine

/-- `t` follows from `s` by a jump of `cycles` cycles to `pc`: nothing else changes and no access is made. -/
def Jumps (s t : State) (pc : Word) (cycles : Nat) : Prop :=
  t.pc = pc ∧ t.stepCycles = cycles ∧ t.f = s.f ∧ t.sp = s.sp ∧ KeepsControl s t ∧ Frame s t [] [] []

/-- `t` follows from `s` by a call or a return of `cycles` cycles: `PC` and `SP` hold these values, `F`, the registers and the
control state are kept, and only the listed bytes are written, by the listed accesses. -/
def Transfers (s t : State) (pc sp : Word) (cycles : Nat) (stored : List (Word × Byte)) (accesses : List BusAccess) : Prop :=
  t.pc = pc ∧ t.sp = sp ∧ t.stepCycles = cycles ∧ t.f = s.f ∧ KeepsControl s t ∧ Frame s t [] stored accesses

/-- The bytes of the return address, in the order in which a call stores them. -/
def State.pushedPc (s : State) : List (Word × Byte) := [(s.sp - 1, hi8 s.pc), (s.sp - 2, lo8 s.pc)]

/-! ### The operations -/

theorem jump_completes (target : Word) (n : Nat) (s : State) : ∃ t, jump target n s = .next t ∧ Jumps s t target n := by
  have hdata : DataUpdates s ((s.setPc target).setCycles n) := (DataUpdates.refl.setPc _).setCycles _
  exact ⟨_, rfl, rfl, rfl, rfl, rfl, hdata.keepsControl, .of_mem_eq (fun _ _ => by simp) rfl (by simp) rfl⟩

/-- A condition that does not hold: a jump to where `PC` already points, past the instruction. -/
theorem fallThrough_completes (n : Nat) (s : State) : ∃ t, retire n s = .next t ∧ Jumps s t s.pc n :=
  jump_completes s.pc n s

theorem call_completes (target : Word) (n : Nat) (s : State) :
    ∃ t, call target n s = .next t ∧
      Transfers s t target (s.sp - 2) n s.pushedPc (s.pushedPc.map fun p => .write p.1 p.2) := by
  have hdata : DataUpdates s (((s.push16 s.pc).setPc target).setCycles n) :=
    ((DataUpdates.refl.push16 _).setPc _).setCycles _
  rw [State.pushedPc, ← sub_one_sub_one]
  refine ⟨_, rfl, rfl, by simp, rfl, by simp, hdata.keepsControl, ?_⟩
  exact .of_write_write (pred_ne s.sp) (fun _ _ => by simp) (by simp) (by simp) (by simp [BusAccess.isRead])

theorem ret_completes (n : Nat) (s : State) :
    let lo := s.busValue s.sp
    let hi := (s.busRead s.sp).busValue (s.sp + 1)
    ∃ t, ret n s = .next t ∧ Transfers s t (ofBytes hi lo) (s.sp + 2) n [] [.read s.sp lo, .read (s.sp + 1) hi] := by
  dsimp only
  have hdata : DataUpdates s ((s.pop16.2.setPc s.pop16.1).setCycles n) := (DataUpdates.refl.pop16.setPc _).setCycles _
  refine ⟨_, rfl, s.pop16_word, by simpa using add_one_add_one s.sp, rfl, by simp, hdata.keepsControl, ?_⟩
  exact .of_mem_eq (fun _ _ => by simp) (by simp) (by simp) s.pop16_busAnswers

/-- `RETI` is `RET` plus `IME <- 1`, nothing else (R271). -/
theorem returnFromInterrupt_eq_ret (s : State) : retire 4 s.returnFromInterrupt = ret 4 { s with ime := true } := rfl

/-- A frame does not speak of `IME`. -/
theorem Frame.of_setIme {s t : State} {ime : Bool} {written : List Reg8} {stored : List (Word × Byte)}
    {accesses : List BusAccess} (h : Frame { s with ime := ime } t written stored accesses) :
    Frame s t written stored accesses :=
  ⟨h.registers, h.otherBytes, h.storedBytes, h.busAccesses, h.busAnswers⟩

/-! ### A transfer under a condition (R269) -/

theorem jumpOrFallThrough_completes (taken : Bool) (target : Word) (n m : Nat) (s : State) :
    ∃ t, (if taken then jump target n s else retire m s) = .next t ∧
      Jumps s t (if taken then target else s.pc) (if taken then n else m) := by
  cases taken with
  | true => exact jump_completes target n s
  | false => exact fallThrough_completes m s

/-- A choice between a transfer and nothing keeps `F` and the control state either way. -/
theorem transferOrFallThrough_completes {s : State} {x : Host.Outcome State Fault Refusal} {pc sp : Word} {n : Nat}
    {stored : List (Word × Byte)} {accesses : List BusAccess} (taken : Bool) (m : Nat)
    (hx : ∃ t, x = .next t ∧ Transfers s t pc sp n stored accesses) :
    ∃ t, (if taken then x else retire m s) = .next t ∧ t.f = s.f ∧ KeepsControl s t ∧
      if taken then t.pc = pc ∧ t.sp = sp ∧ t.stepCycles = n ∧ Frame s t [] stored accesses
      else t.pc = s.pc ∧ t.sp = s.sp ∧ t.stepCycles = m ∧ Frame s t [] [] [] := by
  cases taken with
  | true =>
    obtain ⟨t, hrun, hpc, hsp, hcycles, hf, hcontrol, hframe⟩ := hx
    exact ⟨t, hrun, hf, hcontrol, hpc, hsp, hcycles, hframe⟩
  | false =>
    obtain ⟨t, hrun, hpc, hcycles, hf, hsp, hcontrol, hframe⟩ := fallThrough_completes m s
    exact ⟨t, hrun, hf, hcontrol, hpc, hsp, hcycles, hframe⟩

/-! ### Targets -/

theorem relativeTarget_toNat (pc : Word) (e : Byte) :
    ((relativeTarget pc e).toNat : Int) = ((pc.toNat : Int) + e.toInt) % 65536 := by
  rw [← signed8_eq_toInt]
  exact word_ofInt_toNat _

theorem rstTarget_toNat (k : Fin 8) : (BitVec.ofNat 16 (8 * k)).toNat = 8 * k.val := by
  rw [BitVec.toNat_ofNat]
  omega

/-! ### The encodings -/

theorem encode_jpCond (cc : Cond) (nn : Word) : encode (.jpCond cc nn) = [0xC2 + 8 * cc.code, lo8 nn, hi8 nn] := by
  cases cc <;> rfl

theorem encode_jrCond (cc : Cond) (e : Byte) : encode (.jrCond cc e) = [0x20 + 8 * cc.code, e] := by
  cases cc <;> rfl

theorem encode_callCond (cc : Cond) (nn : Word) : encode (.callCond cc nn) = [0xC4 + 8 * cc.code, lo8 nn, hi8 nn] := by
  cases cc <;> rfl

theorem encode_retCond (cc : Cond) : encode (.retCond cc) = [0xC0 + 8 * cc.code] := by
  cases cc <;> rfl

theorem encode_rst (k : Fin 8) : encode (.rst k) = [0xC7 + 8 * BitVec.ofNat 8 k] := by
  fin_cases k <;> rfl

/-! ### The instructions -/

/-- Settles O30: three jumps, one of them to the displaced `PC`. -/
theorem unconditionalJumps : Obligations.UnconditionalJumps := by
  intro s
  refine ⟨fun nn => ⟨rfl, Form.exec_completes (.jp nn) (jump_completes nn 4 s)⟩,
    ⟨rfl, Form.exec_completes .jpHl (jump_completes s.hl 1 s)⟩, fun e => ⟨rfl, ?_⟩⟩
  obtain ⟨t, hexec, hpc, hrest⟩ := Form.exec_completes (.jr e) (jump_completes (relativeTarget s.pc e) 3 s)
  exact ⟨t, hexec, hpc ▸ relativeTarget_toNat s.pc e, hrest⟩

/-- Settles O31: a jump when the condition holds, and nothing when it does not. -/
theorem conditionalJumps : Obligations.ConditionalJumps := by
  intro cc s
  rw [← s.cond_eq_holds]
  refine ⟨fun nn => ⟨encode_jpCond cc nn,
    Form.exec_completes (.jpCond cc nn) (jumpOrFallThrough_completes (s.cond cc) nn 4 3 s)⟩,
    fun e => ⟨encode_jrCond cc e, ?_⟩⟩
  obtain ⟨t, hexec, hpc, hrest⟩ :=
    Form.exec_completes (.jrCond cc e) (jumpOrFallThrough_completes (s.cond cc) (relativeTarget s.pc e) 3 2 s)
  refine ⟨t, hexec, ?_, hrest⟩
  rw [hpc, ← relativeTarget_toNat]
  split <;> rfl

/-- Settles O32: a call with its target, or nothing when the condition does not hold. -/
theorem calls : Obligations.Calls := by
  intro s
  refine ⟨fun nn => ⟨rfl, Form.exec_completes (.call nn) (call_completes nn 6 s)⟩, fun k => ⟨encode_rst k, ?_⟩,
    fun cc nn => ⟨encode_callCond cc nn, ?_⟩⟩
  · obtain ⟨t, hexec, hpc, hrest⟩ := Form.exec_completes (.rst k) (call_completes (BitVec.ofNat 16 (8 * k)) 4 s)
    exact ⟨t, hexec, hpc ▸ rstTarget_toNat k, hrest⟩
  · rw [← s.cond_eq_holds]
    exact Form.exec_completes (.callCond cc nn)
      (transferOrFallThrough_completes (s.cond cc) 3 (call_completes nn 6 s))

/-- Settles O33: a return from `s`, and for `RETI` the return from `s` with `IME` set. -/
theorem returns : Obligations.Returns := by
  intro s lo hi
  refine ⟨⟨rfl, Form.exec_completes .ret (ret_completes 4 s)⟩, rfl, ?_⟩
  obtain ⟨t, hrun, hpc, hsp, hcycles, hf, hcontrol, hframe⟩ := ret_completes 4 { s with ime := true }
  rw [← returnFromInterrupt_eq_ret] at hrun
  exact Form.exec_completes .reti ⟨t, hrun, hpc, hsp, hcycles, hcontrol.ime, hf, hcontrol, hframe.of_setIme⟩

/-- Settles O34: a return when the condition holds, and nothing when it does not. -/
theorem conditionalReturn : Obligations.ConditionalReturn := by
  intro cc s lo hi
  rw [← s.cond_eq_holds]
  exact ⟨encode_retCond cc,
    Form.exec_completes (.retCond cc) (transferOrFallThrough_completes (s.cond cc) 2 (ret_completes 5 s))⟩

/-- Settles O35: the return pops the word the call pushed; the jump between them leaves the stack alone. -/
theorem returnResumesAfterCall : Obligations.ReturnResumesAfterCall := by
  intro nn s hans hwf
  exact ⟨_, _, exec_form (.call nn) s, exec_form .ret _, rfl, State.pop16_push16 hans hwf s.pc, s.pop16_push16_sp s.pc⟩

end Sys2Proof.Machine
end

section
/-! 46_cpu_control.md: CPU control. Each of these instructions writes control state, and `HALT` may read the bus: each moves no
data from the state with its control state already written. The delay of `EI` is two Steps: the interrupt phase of the first finds
`IME` clear, the second promotes the latch before its fetch. -/

namespace Sys2Proof.Machine

/-- A frame does not speak of the control state. -/
theorem Frame.of_setControl {s t : State} {ime imeSched haltBug : Bool} {runState : RunState} {written : List Reg8}
    {stored : List (Word × Byte)} {accesses : List BusAccess}
    (h : Frame { s with ime := ime, imeSched := imeSched, haltBug := haltBug, runState := runState } t written stored accesses) :
    Frame s t written stored accesses :=
  ⟨h.registers, h.otherBytes, h.storedBytes, h.busAccesses, h.busAnswers⟩

theorem retire_completes (n : Nat) (s : State) : ∃ t, retire n s = .next t ∧ MovesData s t n [] [] [] := by
  obtain ⟨t, hrun, hpc, hcycles, hf, hsp, hcontrol, hframe⟩ := fallThrough_completes n s
  exact ⟨t, hrun, hcycles, hf, hsp, hpc, hcontrol, hframe⟩

/-! ### `HALT` -/

/-- The reads of `HALT` with `IME = 0` (R291). -/
def State.haltReads (s : State) : List BusAccess :=
  let gated := s.config.haltBugIeGated
  let ie : Byte := if gated then s.busValue ieAddr else 0xFF
  let ifl := (if gated then s.busRead ieAddr else s).busValue ifAddr
  if gated then [.read ieAddr ie, .read ifAddr ifl] else [.read ifAddr ifl]

theorem haltSample_completes (s : State) :
    ∃ t, retire 1 (haltSample s).2 = .next t ∧ MovesData s t 1 [] [] s.haltReads := by
  have hcontrol := ((haltSample_data s).setCycles 1).keepsControl
  unfold State.haltReads
  unfold haltSample at hcontrol ⊢
  cases hgated : s.config.haltBugIeGated with
  | true =>
    simp only [hgated, if_true] at hcontrol ⊢
    exact ⟨_, rfl, rfl, rfl, rfl, rfl, hcontrol, .of_mem_eq (fun _ _ => by simp) rfl (by simp) (tail_tail _)⟩
  | false =>
    simp only [hgated, Bool.false_eq_true, if_false] at hcontrol ⊢
    exact ⟨_, rfl, rfl, rfl, rfl, rfl, hcontrol, .of_mem_eq (fun _ _ => by simp) rfl rfl (by simp [BusAccess.isRead])⟩

/-- The reads neither change nor see the run state and the halt-bug latch. -/
theorem haltSample_setControl (s : State) (r : RunState) (x : Bool) :
    (haltSample { s with runState := r, haltBug := x }).2 = { (haltSample s).2 with runState := r, haltBug := x } := by
  unfold haltSample
  cases s.config.haltBugIeGated with
  | true | false => rfl

theorem State.haltReads_setControl (s : State) (r : RunState) (x : Bool) :
    State.haltReads { s with runState := r, haltBug := x } = s.haltReads := by
  unfold State.haltReads
  cases s.config.haltBugIeGated with
  | true | false => rfl

/-- `HALT` meets the halt bug: `IME = 0` and a request is pending. -/
def State.meetsHaltBug (s : State) : Bool := !s.ime && decide ((haltSample s).1 ≠ 0)

/-- The state with the control state that `HALT` leaves. -/
def State.haltControl (s : State) : State :=
  { s with
    runState := if s.meetsHaltBug then s.runState else .halted
    haltBug := if s.meetsHaltBug then true else s.haltBug }

/-- `HALT` may write the control state first and read then. -/
theorem halt_eq (s : State) : halt s = retire 1 (if s.ime then s.haltControl else (haltSample s.haltControl).2) := by
  rw [State.haltControl, haltSample_setControl]
  unfold halt State.meetsHaltBug
  have hsample := (haltSample_data s).keepsControl
  cases hime : s.ime with
  | true => simp [State.setRunState, hime]
  | false =>
    by_cases hnone : (haltSample s).1 = 0#8
    · simp [hnone, State.setRunState, ← hsample.haltBug]
    · simp [hnone, State.setHaltBug, ← hsample.runState]

theorem halt_completes (s : State) :
    ∃ t, halt s = .next t ∧ MovesData s.haltControl t 1 [] [] (if s.ime then [] else s.haltReads) := by
  rw [halt_eq]
  cases s.ime with
  | true => exact retire_completes 1 s.haltControl
  | false =>
    have h := haltSample_completes s.haltControl
    rwa [State.haltControl, State.haltReads_setControl] at h

/-! ### The instructions -/

/-- Settles O36: nothing is moved from `s`, from `s` with `IME` and its latch clear, from `s` with the latch set. -/
theorem nopDiEi : Obligations.NopDiEi := by
  intro s
  refine ⟨⟨rfl, Form.exec_completes .nop (retire_completes 1 s)⟩, ⟨rfl, Form.exec_completes .di ?_⟩,
    rfl, Form.exec_completes .ei ?_⟩
  · obtain ⟨t, hrun, hcycles, hf, hsp, hpc, hcontrol, hframe⟩ := retire_completes 1 s.disableInterrupts
    exact ⟨t, hrun, hcycles, hcontrol.ime, hcontrol.imeSched, hf, hsp, hpc, hcontrol, hframe.of_setControl⟩
  · obtain ⟨t, hrun, hcycles, hf, hsp, hpc, hcontrol, hframe⟩ := retire_completes 1 { s with imeSched := true }
    exact ⟨t, hrun, hcycles, hcontrol.ime, hcontrol.imeSched, hf, hsp, hpc, hcontrol, hframe.of_setControl⟩

/-- Settles O37: the reads, if `IME` is clear, from the state with the control state `HALT` leaves. -/
theorem haltOrHaltBug : Obligations.HaltOrHaltBug := by
  intro s
  refine ⟨rfl, Form.exec_completes .halt ?_⟩
  obtain ⟨t, hrun, hcycles, hf, hsp, hpc, hcontrol, hframe⟩ := halt_completes s
  refine ⟨t, hrun, hcycles, hcontrol.runState, hcontrol.haltBug, hf, hsp, hpc, ?_, hframe.of_setControl⟩
  rw [hcontrol.runState, hcontrol.haltBug]
  exact hcontrol

/-- Settles O38: nothing is moved from the state in `Stopped`, whatever the second byte. -/
theorem stopEntersStopped : Obligations.StopEntersStopped := by
  intro n s
  refine ⟨rfl, Form.exec_completes (.stop n) ?_⟩
  obtain ⟨t, hrun, hcycles, hf, hsp, hpc, hcontrol, hframe⟩ := retire_completes s.config.stopCycles (s.setRunState .stopped)
  exact ⟨t, hrun, hcycles, hcontrol.runState, hf, hsp, hpc, hcontrol, hframe.of_setControl⟩

/-! ### The delay of `EI` -/

/-- The fetch of an opcode byte that is an instruction of its own. -/
theorem fetchInstr_of_bare {s : State} (hcb : s.busValue s.pc ≠ cbByte) (himm : immediateOf (s.busValue s.pc) = .none) :
    s.fetchInstr = (unprefixedSlot (s.busValue s.pc) 0 0, s.fetchOpcode.2) := by
  have hop : s.fetchOpcode.1 = s.busValue s.pc := rfl
  simp [State.fetchInstr, hop, hcb, himm]

/-- The state after a Step that executes `EI` and takes no interrupt: the opcode is fetched, the latch set, one cycle counted. -/
def State.afterEi (s : State) : State :=
  let fetched := ((s.beginStep.busRead s.pc).setPc (if s.haltBug then s.pc else s.pc + 1)).setHaltBug false
  (State.setCycles { fetched with imeSched := true } 1).countCycles

/-- The Step of `EI` takes no interrupt: its interrupt phase finds `IME` clear. -/
theorem step_ei {s : State} (hfault : s.fault = none) (hrun : s.runState = .running) (hime : s.ime = false)
    (hsched : s.imeSched = false) (hop : s.busValue s.pc = 0xFB) : step s = .next s.afterEi := by
  have hpromote : s.beginStep.promote = s.beginStep := by simp [State.promote, hsched]
  have hop' : s.beginStep.busValue s.beginStep.pc = 0xFB := hop
  have hfetch : s.beginStep.fetchInstr = (.ei, s.beginStep.fetchOpcode.2) := by
    rw [fetchInstr_of_bare (by rw [hop']; decide) (by rw [hop']; rfl), hop']
    rfl
  obtain ⟨t, hexec, hstep⟩ := step_of_not_illegal hfault hrun hpromote (by rw [hfetch]; rfl)
  have ht : State.setCycles { s.beginStep.fetchOpcode.2 with imeSched := true } 1 = t := by
    rw [hfetch] at hexec
    exact Host.Outcome.next.inj hexec
  have hphase : t.interruptPhase none = t := interruptPhase_off (.inr (by simp [← ht, fetchOpcode_eq, hime])) none
  rw [hstep, State.endStep, hphase, ← ht, fetchOpcode_eq]
  rfl

/-- Settles O43: after the Step of `EI` the latch is set, so the next Step is promoted before its fetch and executes its
instruction with `IME` set. -/
theorem eiDelaysByOneInstruction : Obligations.EiDelaysByOneInstruction := by
  intro s hfault hrun hime hsched hop
  have hlatch : s.afterEi.imeSched = true := rfl
  have hrun' : s.afterEi.runState = .running := by simp [State.afterEi, hrun]
  have hfault' : s.afterEi.fault = none := by simp [State.afterEi, hfault]
  have hread : s.afterEi.busAccesses = [.read s.pc (s.busValue s.pc)] := rfl
  refine ⟨s.afterEi, step_ei hfault hrun hime hsched hop, by simp [State.afterEi, hime], hlatch, rfl, rfl, hrun', hfault',
    by simp [State.afterEi], hop ▸ hread, by simp [State.afterEi], ?_⟩
  exact ⟨by simp [hlatch], by simp, by simp [hlatch], by simp, step_of_not_illegal hfault' hrun' rfl⟩

end Sys2Proof.Machine
end

section
/-! 60_exceptions.md: the illegal-opcode fault, the interrupt phase and the dispatch it takes, the Halted and Stopped arms. A Step
is an arm and then its end, the interrupt phase and the cycle counter; the run state and the cycles of a Step follow from what
each of the two can do. -/

namespace Sys2Proof.Machine

/-! ### The illegal opcodes (R312) -/

/-- The Step of a running core that fetches an illegal opcode undoes the fetch and latches the fault. -/
theorem step_of_illegal {s : State} (hfault : s.fault = none) (hrun : s.runState = .running)
    (hi : s.beginStep.promote.fetchInstr.1.isIllegal = true) :
    step s = .next (s.beginStep.undo s.beginStep.promote.fetchInstr.2).raiseIllegal := by
  simp [step_running hfault hrun, instructionPhase, hi, exec_illegal hi, afterInstruction, State.raiseIllegal]

/-- What the bus answers does not depend on the `EI` latch, nor on the beginning of a Step. -/
theorem busValue_promote_beginStep (s : State) (addr : Word) : s.beginStep.promote.busValue addr = s.busValue addr :=
  busValue_congr (by simp) (by simp) addr

/-- An illegal byte is an opcode without an immediate, so its fetch is that of the opcode alone. -/
theorem fetchInstr_beginStep_of_illegal {s : State} (hop : s.busValue s.pc ∈ illegalBytes) :
    s.beginStep.promote.fetchInstr =
      (unprefixedSlot (s.busValue s.pc) 0 0, s.beginStep.promote.fetchOpcode.2) := by
  have hbare : ∀ op ∈ illegalBytes, op ≠ cbByte ∧ immediateOf op = .none := by decide
  have hvalue : s.beginStep.promote.busValue s.beginStep.promote.pc = s.busValue s.pc := by
    rw [busValue_promote_beginStep, State.promote_pc, State.beginStep_pc]
  obtain ⟨hcb, himm⟩ := hbare _ hop
  rw [← hvalue] at hcb himm ⊢
  exact fetchInstr_of_bare hcb himm

/-- Settles O39: the fetch of an illegal byte is undone but for its read, and with the fault latched no arm is taken. -/
theorem illegalOpcodeStopsForGood : Obligations.IllegalOpcodeStopsForGood := by
  refine ⟨fun op _ s => rfl, fun s hfault hrun hop => ?_, fun s addr => step_faulted⟩
  have hfetch := fetchInstr_beginStep_of_illegal hop
  have hillegal : s.beginStep.promote.fetchInstr.1.isIllegal = true := by
    rw [hfetch, slot_illegal, List.contains_iff_mem]
    exact hop
  have hread : s.beginStep.promote.fetchInstr.2.busAccesses = [.read s.pc (s.busValue s.pc)] := by
    simp [hfetch, fetchOpcode_eq, busValue_promote_beginStep]
  have hans : s.beginStep.promote.fetchInstr.2.busAnswers = s.busAnswers.tail := by simp [hfetch, fetchOpcode_eq]
  rw [step_of_illegal hfault hrun hillegal, State.undo, hread, hans]
  rfl

/-! ### The interrupt phase (R313 to R315) -/

theorem exists_leastSetBit {p : Byte} (hp : p ≠ 0) : ∃ b, LeastSetBit p b := by
  have hset : ∃ b, p.getLsbD b = true := by
    by_contra hnone
    exact hp (BitVec.eq_of_getLsbD_eq fun b _ => by simpa using not_exists.mp hnone b)
  exact ⟨Nat.find hset, Nat.find_spec hset, fun j hj => by simpa using Nat.find_min hset hj⟩

theorem IntSource.exists_bit {b : Nat} (hb : b < 5) : ∃ k : IntSource, k.bit = b := by
  interval_cases b
  exacts [⟨.vBlank, rfl⟩, ⟨.lcdStat, rfl⟩, ⟨.timer, rfl⟩, ⟨.serial, rfl⟩, ⟨.joypad, rfl⟩]

/-- The mask leaves the bits of the five sources. -/
theorem exists_source_of_masked {p : Byte} (hp : p &&& 0x1F ≠ 0) : ∃ k : IntSource, LeastSetBit (p &&& 0x1F) k.bit := by
  obtain ⟨b, hset, hleast⟩ := exists_leastSetBit hp
  have hmask : ∀ b < 8, (0x1F : Byte).getLsbD b = true → b < 5 := by decide
  have hb : (0x1F : Byte).getLsbD b = true := by
    rw [BitVec.getLsbD_and, Bool.and_eq_true] at hset
    exact hset.2
  obtain ⟨k, rfl⟩ := IntSource.exists_bit (hmask b (BitVec.lt_of_getLsbD hb) hb)
  exact ⟨k, hset, hleast⟩

theorem LeastSetBit.ne_zero {p : Byte} {k : Nat} (h : LeastSetBit p k) : p ≠ 0 := by
  rintro rfl
  obtain ⟨hset, -⟩ := h
  simp at hset

theorem interruptPhase_sampled_none {ie ifl : Byte} (h : ie &&& ifl &&& 0x1F = 0) (s : State) :
    s.interruptPhase (some (ie, ifl)) = s := by
  by_cases hoff : s.runState = .stopped ∨ s.ime = false
  · exact interruptPhase_off hoff _
  · obtain ⟨hr, hi⟩ := not_or.mp hoff
    rw [interruptPhase_sampled hr (by simpa using hi), dispatchPending_none h]

theorem interruptPhase_sampled_some {s : State} (hr : s.runState ≠ .stopped) (hi : s.ime = true) {ie ifl : Byte}
    {k : IntSource} (hk : LeastSetBit (ie &&& ifl &&& 0x1F) k.bit) :
    s.interruptPhase (some (ie, ifl)) = (s.dispatch k ifl).setCycles (s.stepCycles + s.config.intDispatchCycles) := by
  rw [interruptPhase_sampled hr hi, dispatchPending_some hk]

/-- A phase that is given no sample takes one, and goes on with it. -/
theorem interruptPhase_none {s : State} (hr : s.runState ≠ .stopped) (hi : s.ime = true) :
    s.interruptPhase none = ((s.busRead ieAddr).busRead ifAddr).interruptPhase
      (some (s.busValue ieAddr, (s.busRead ieAddr).busValue ifAddr)) := by
  rw [interruptPhase_sample hr hi, interruptPhase_sampled (by simpa) (by simpa)]

/-- Settles O46: without a sample the phase reads `IE` and `IF`; a sample is dispatched by its least set bit. -/
theorem interruptPhaseSelects : Obligations.InterruptPhaseSelects := by
  refine fun s => ⟨fun hoff => interruptPhase_off hoff, fun hr hi => ⟨fun hnone => ?_, fun k hk => ?_, fun ie ifl => ?_⟩,
    fun p => exists_source_of_masked⟩
  · rw [interruptPhase_none hr hi, interruptPhase_sampled_none hnone]
  · rw [interruptPhase_none hr hi, interruptPhase_sampled_some (by simpa) (by simpa) hk]
    rfl
  · exact ⟨fun hnone => interruptPhase_sampled_none hnone s, fun k hk => interruptPhase_sampled_some hr hi hk⟩

/-! ### The dispatch (R316) -/

theorem IntSource.vector_toNat (k : IntSource) : k.vector.toNat = 0x0040 + 8 * k.bit := by
  cases k <;> rfl

theorem acknowledge_getLsbD (b : Nat) (v : Byte) {j : Nat} (hj : j < 8) :
    (v &&& (0xFF ^^^ ((1 : Byte) <<< b))).getLsbD j = (decide (j ≠ b) && v.getLsbD j) := by
  rw [show v &&& (0xFF ^^^ ((1 : Byte) <<< b)) = clearBit b v from rfl, clearBit_getLsbD b v j hj]
  by_cases h : j = b <;> simp [h]

/-- A dispatch stores at `IF` and at the two bytes below `SP` only. -/
theorem read_dispatch_other (s : State) (k : IntSource) (ifl : Byte) {addr : Word} (hif : addr ≠ ifAddr)
    (hhi : addr ≠ s.sp - 1) (hlo : addr ≠ s.sp - 2) :
    Memory.read (s.dispatch k ifl).mem addr.toNat = Memory.read s.mem addr.toNat := by
  rw [State.dispatch_mem]
  refine Memory.read_applyAll_of_not_written (fun v hmem => ?_) s.mem
  simp only [State.dispatchAccesses, List.mem_cons, BusAccess.write.injEq, hif, hhi, hlo, false_and, List.not_mem_nil,
    or_self] at hmem

/-- A dispatch leaves `PC` on the stack; its push follows the acknowledge write, so this holds also where they meet. -/
theorem read_dispatch_stack {s : State} (hwf : Memory.wf s.mem = true) (k : IntSource) (ifl : Byte) :
    Memory.read (s.dispatch k ifl).mem (s.sp - 1).toNat = hi8 s.pc
      ∧ Memory.read (s.dispatch k ifl).mem (s.sp - 2).toNat = lo8 s.pc := by
  obtain ⟨v, hdispatch⟩ : ∃ v, s.dispatch k ifl =
      (((s.busWrite ifAddr v).disableInterrupts.push16 s.pc).setPc k.vector).setRunState .running := ⟨_, rfl⟩
  obtain ⟨hlo, hhi⟩ := State.read_push16 (s := (s.busWrite ifAddr v).disableInterrupts) (Memory.wf_write ifAddr v hwf) s.pc
  rw [hdispatch, State.setRunState_mem, State.setPc_mem, ← sub_one_sub_one]
  exact ⟨hhi, hlo⟩

theorem dispatch_keepsControl (s : State) (k : IntSource) (ifl : Byte) :
    KeepsControl { s with ime := false, imeSched := false, runState := .running } (s.dispatch k ifl) := by
  constructor <;> simp

/-- Settles O47: the three writes in order, the control state, and the bytes the writes leave. -/
theorem dispatchTakesTheInterrupt : Obligations.DispatchTakesTheInterrupt := by
  intro s k ifl
  have hpc : (s.dispatch k ifl).pc.toNat = 0x0040 + 8 * k.bit := by rw [State.dispatch_pc, k.vector_toNat]
  have hsp : (s.dispatch k ifl).sp = s.sp - 2 := by rw [State.dispatch_sp, sub_one_sub_one]
  exact ⟨⟨rfl, rfl, rfl, rfl, rfl⟩, fun j => acknowledge_getLsbD k.bit ifl, s.dispatch_busAccesses k ifl,
    s.dispatch_busAnswers k ifl, s.dispatch_mem k ifl, fun addr => read_dispatch_other s k ifl,
    fun hwf => read_dispatch_stack hwf k ifl, hpc, hsp, s.dispatch_runState k ifl, s.dispatch_ime k ifl,
    s.dispatch_imeSched k ifl, s.getReg_dispatch k ifl, s.dispatch_f k ifl, dispatch_keepsControl s k ifl⟩

/-! ### The end of a Step -/

theorem endStep_off {s : State} (hoff : s.runState = .stopped ∨ s.ime = false) (sampled : Option (Byte × Byte)) :
    s.endStep sampled = s.countCycles :=
  congrArg State.countCycles (interruptPhase_off hoff sampled)

theorem endStep_sampled_none {ie ifl : Byte} (h : ie &&& ifl &&& 0x1F = 0) (s : State) :
    s.endStep (some (ie, ifl)) = s.countCycles :=
  congrArg State.countCycles (interruptPhase_sampled_none h s)

theorem endStep_sampled_some {s : State} (hr : s.runState ≠ .stopped) (hi : s.ime = true) {ie ifl : Byte}
    {k : IntSource} (hk : LeastSetBit (ie &&& ifl &&& 0x1F) k.bit) :
    s.endStep (some (ie, ifl)) = { s.dispatch k ifl with
      stepCycles := s.stepCycles + s.config.intDispatchCycles
      cycleCount := s.cycleCount + (s.stepCycles + s.config.intDispatchCycles) } := by
  rw [State.endStep, interruptPhase_sampled_some hr hi hk, ← s.dispatch_cycleCount k ifl]
  rfl

theorem endStep_none {s : State} (hr : s.runState ≠ .stopped) (hi : s.ime = true) :
    s.endStep none = ((s.busRead ieAddr).busRead ifAddr).endStep
      (some (s.busValue ieAddr, (s.busRead ieAddr).busValue ifAddr)) :=
  congrArg State.countCycles (interruptPhase_none hr hi)

/-- The end of a Step keeps the run state, or it takes an interrupt, which a Stopped core does not, and the core runs. -/
theorem endStep_runState (s : State) (sampled : Option (Byte × Byte)) :
    (s.endStep sampled).runState = s.runState ∨
      (s.runState ≠ .stopped ∧ (s.endStep sampled).runState = .running) := by
  obtain ⟨-, heq⟩ | ⟨hr, -, ie, ifl, u, hu, hphase⟩ := interruptPhase_cases s sampled
  · simp [State.endStep, heq]
  have hsample : u.runState = s.runState := by
    obtain ⟨-, rfl⟩ | ⟨-, -, -, rfl⟩ := hu <;> simp
  obtain ⟨-, heq⟩ | ⟨k, -, heq⟩ := hphase
  · simp [State.endStep, heq, hsample]
  · exact .inr ⟨hr, by simp [State.endStep, heq]⟩

/-- The end of a Step adds the cycles of a dispatch to those of the arm, or none, and counts the sum. -/
theorem endStep_cycles (s : State) (sampled : Option (Byte × Byte)) :
    ((s.endStep sampled).stepCycles = s.stepCycles ∨
      (s.endStep sampled).stepCycles = s.stepCycles + s.config.intDispatchCycles) ∧
    (s.endStep sampled).cycleCount = s.cycleCount + (s.endStep sampled).stepCycles := by
  obtain ⟨-, heq⟩ | ⟨-, -, ie, ifl, u, hu, hphase⟩ := interruptPhase_cases s sampled
  · simp [State.endStep, heq]
  have hsample : u.stepCycles = s.stepCycles ∧ u.cycleCount = s.cycleCount ∧ u.config = s.config := by
    obtain ⟨-, rfl⟩ | ⟨-, -, -, rfl⟩ := hu <;> simp
  obtain ⟨hcycles, hcount, hconfig⟩ := hsample
  obtain ⟨-, heq⟩ | ⟨k, -, heq⟩ := hphase
  · simp [State.endStep, heq, hcycles, hcount]
  · simp [State.endStep, heq, hcycles, hcount, hconfig]

/-! ### The Halted and Stopped arms (R320, R322) -/

/-- What a sample reads depends on the store and the pending answers only. -/
theorem sampled_congr {s t : State} (hm : t.mem = s.mem) (ha : t.busAnswers = s.busAnswers) :
    t.busValue ieAddr = s.busValue ieAddr ∧ (t.busRead ieAddr).busValue ifAddr = (s.busRead ieAddr).busValue ifAddr :=
  ⟨busValue_congr hm ha ieAddr, busValue_congr (by simpa) (by simp [ha]) ifAddr⟩

/-- A sample makes its two reads and nothing else. -/
theorem sample_eq (s : State) :
    (s.busRead ieAddr).busRead ifAddr = { s with
      busAccesses := s.busAccesses ++
        [.read ieAddr (s.busValue ieAddr), .read ifAddr ((s.busRead ieAddr).busValue ifAddr)]
      busAnswers := s.busAnswers.drop 2 } := by
  simp [State.ext_iff, tail_tail]

/-- The state in which a Halted Step ends its arm: it has sampled `IE` and `IF`, and it runs if a request is enabled. -/
def State.afterHaltedArm (s : State) : State :=
  let ie := s.busValue ieAddr
  let ifl := (s.busRead ieAddr).busValue ifAddr
  { s with
    runState := if ie &&& ifl &&& 0x1F = 0 then .halted else .running
    stepCycles := 1
    busAccesses := [.read ieAddr ie, .read ifAddr ifl]
    busAnswers := s.busAnswers.drop 2
    stopWake := s.stopWake.tail }

theorem haltedArm_beginStep {s : State} (hrun : s.runState = .halted) :
    s.beginStep.haltedArm = (s.afterHaltedArm, s.busValue ieAddr, (s.busRead ieAddr).busValue ifAddr) := by
  obtain ⟨hie, hif⟩ := sampled_congr (s := s) (t := s.beginStep) rfl rfl
  unfold State.haltedArm State.sampleInterrupts State.afterHaltedArm
  simp only [hie, hif, pendingEnabled, sample_eq]
  split
  · rw [← hrun]
    rfl
  · rfl

theorem step_halted_eq {s : State} (hfault : s.fault = none) (hrun : s.runState = .halted) :
    step s = .next (s.afterHaltedArm.endStep (some (s.busValue ieAddr, (s.busRead ieAddr).busValue ifAddr))) := by
  rw [step_halted hfault hrun, haltedArm_beginStep hrun]

/-- Settles O44: the interrupt phase takes the arm's sample. -/
theorem haltedStep : Obligations.HaltedStep := by
  intro s hfault hrun
  have hstep := step_halted_eq hfault hrun
  refine ⟨fun hoff => hstep.trans (congrArg _ ?_), fun hime k hk => hstep.trans (congrArg _ ?_)⟩
  · obtain hnone | hime := hoff
    · exact endStep_sampled_none hnone s.afterHaltedArm
    · exact endStep_off (s := s.afterHaltedArm) (.inr hime) _
  · have hwoken : s.afterHaltedArm.runState = .running := if_neg hk.ne_zero
    exact endStep_sampled_some (s := s.afterHaltedArm) (by simp [hwoken]) hime hk

/-- The state that a woken Stopped core has sampled in: it runs, and `IE` and `IF` are read. -/
def State.wokenSampled (s : State) : State :=
  { s with
    runState := .running
    stepCycles := s.config.stopStepCycles
    busAccesses := [.read ieAddr (s.busValue ieAddr), .read ifAddr ((s.busRead ieAddr).busValue ifAddr)]
    busAnswers := s.busAnswers.drop 2
    stopWake := s.stopWake.tail }

theorem step_stopped_woken {s : State} (hfault : s.fault = none) (hrun : s.runState = .stopped)
    (hwake : s.wakeInput = true) (hime : s.ime = true) :
    step s = .next (s.wokenSampled.endStep (some (s.busValue ieAddr, (s.busRead ieAddr).busValue ifAddr))) := by
  obtain ⟨hie, hif⟩ := sampled_congr (s := s) (t := s.beginStep.stoppedArm true) rfl rfl
  have hwoken : (s.beginStep.stoppedArm true).runState = .running := rfl
  have himeWoken : (s.beginStep.stoppedArm true).ime = true := hime
  rw [step_stopped hfault hrun, hwake, endStep_none (by simp [hwoken]) himeWoken, sample_eq, hie, hif]
  rfl

/-- Settles O45: without the wake input the core stays Stopped, so there is no interrupt phase; with it the phase of a running
core follows. -/
theorem stoppedStep : Obligations.StoppedStep := by
  intro s hfault hrun
  have hstep := step_stopped hfault hrun
  refine ⟨fun hwake => ?_, fun hwake hime => ?_, fun hwake hime => ⟨fun hnone => ?_, fun k hk => ?_⟩⟩
  · rw [hwake] at hstep
    exact hstep.trans (congrArg _ (endStep_off (s := s.beginStep.stoppedArm false) (.inl hrun) none))
  · rw [hwake] at hstep
    exact hstep.trans (congrArg _ (endStep_off (s := s.beginStep.stoppedArm true) (.inr hime) none))
  · exact (step_stopped_woken hfault hrun hwake hime).trans (congrArg _ (endStep_sampled_none hnone s.wokenSampled))
  · exact (step_stopped_woken hfault hrun hwake hime).trans
      (congrArg _ (endStep_sampled_some (s := s.wokenSampled) (by simp [State.wokenSampled]) hime hk))

/-! ### The run state (R326) -/

/-- In a running core `STOP` alone stops, and only `HALT` halts. -/
theorem exec_runState {i : Instr} {s t : State} (hexec : exec i s = .next t) (hrun : s.runState = .running) :
    (t.runState = .stopped ↔ ∃ n, i = .stop n) ∧ (t.runState = .halted → i = .halt)
      ∧ t.runState ≠ .interruptDispatch := by
  by_cases hstop : ∃ n, i = .stop n
  · obtain ⟨n, rfl⟩ := hstop
    obtain rfl : (s.setRunState .stopped).setCycles s.config.stopCycles = t := Host.Outcome.next.inj hexec
    simp
  have hkept : t.runState = .running ∨ (t.runState = .halted ∧ i = .halt) := by
    obtain ⟨u, hexec', heffect⟩ := exec_effect i s
    obtain rfl : u = t := Host.Outcome.next.inj (hexec'.symm.trans hexec)
    cases heffect with
    | data h => exact .inl (h.keepsControl.runState.trans hrun)
    | haltBug _ h => exact .inl (h.keepsControl.runState.trans hrun)
    | halted => exact .inr ⟨rfl, rfl⟩
    | stop n => exact absurd ⟨n, rfl⟩ hstop
    | di | ei | illegal => exact .inl hrun
    | reti => exact .inl ((DataUpdates.pop16 (s := s) .refl).keepsControl.runState.trans hrun)
  obtain h | ⟨h, hi⟩ := hkept
  · simp [h, hstop]
  · simp [h, hi]

/-- The Step of a running core: the end of the Step changes the run state to `Running` only, and not from `Stopped`. -/
theorem step_running_runState {s t : State} (hfault : s.fault = none) (hrun : s.runState = .running)
    (hstep : step s = .next t) :
    (t.runState = .stopped ↔ ∃ n, s.beginStep.promote.fetchInstr.1 = .stop n)
      ∧ (t.runState = .halted → s.beginStep.promote.fetchInstr.1 = .halt) ∧ t.runState ≠ .interruptDispatch := by
  cases hi : s.beginStep.promote.fetchInstr.1.isIllegal with
  | true =>
    obtain rfl := Host.Outcome.next.inj ((step_of_illegal hfault hrun hi).symm.trans hstep)
    have hstop : ¬ ∃ n, s.beginStep.promote.fetchInstr.1 = .stop n := by
      rintro ⟨n, hn⟩
      simp [hn, Instr.isIllegal] at hi
    simp [State.undo, hrun, hstop]
  | false =>
    obtain ⟨u, hexec, hstep'⟩ := step_of_not_illegal hfault hrun rfl hi
    obtain rfl := Host.Outcome.next.inj (hstep'.symm.trans hstep)
    obtain ⟨hstopped, hhalted, hdispatch⟩ := exec_runState hexec (by simp [hrun])
    obtain heq | ⟨hne, heq⟩ := endStep_runState u none
    · rw [heq]
      exact ⟨hstopped, hhalted, hdispatch⟩
    · simp [heq, ← hstopped, hne]

/-- A halted core wakes exactly on an enabled request, dispatched or not. -/
theorem step_halted_runState {s t : State} (hfault : s.fault = none) (hrun : s.runState = .halted)
    (hstep : step s = .next t) :
    t.runState = if s.busValue ieAddr &&& (s.busRead ieAddr).busValue ifAddr &&& 0x1F = 0 then .halted else .running := by
  obtain rfl := Host.Outcome.next.inj ((step_halted_eq hfault hrun).symm.trans hstep)
  by_cases hnone : s.busValue ieAddr &&& (s.busRead ieAddr).busValue ifAddr &&& 0x1F = 0
  · rw [endStep_sampled_none hnone]
    rfl
  · have hwoken : s.afterHaltedArm.runState = .running := if_neg hnone
    rw [if_neg hnone]
    obtain heq | ⟨-, heq⟩ := endStep_runState s.afterHaltedArm _
    · exact heq.trans hwoken
    · exact heq

theorem step_stopped_runState {s t : State} (hfault : s.fault = none) (hrun : s.runState = .stopped)
    (hstep : step s = .next t) : t.runState = if s.wakeInput then .running else .stopped := by
  obtain rfl := Host.Outcome.next.inj ((step_stopped hfault hrun).symm.trans hstep)
  cases s.wakeInput with
  | false => exact (congrArg State.runState (endStep_off (s := s.beginStep.stoppedArm false) (.inl hrun) none)).trans hrun
  | true =>
    obtain heq | ⟨-, heq⟩ := endStep_runState (s.beginStep.stoppedArm true) none
    · exact heq
    · exact heq

/-- Settles O55, arm by arm. -/
theorem runStateTransitions : Obligations.RunStateTransitions := fun _ _ hfault hstep =>
  ⟨fun hrun => step_stopped_runState hfault hrun hstep, fun hrun => step_halted_runState hfault hrun hstep,
    fun hrun => step_running_runState hfault hrun hstep⟩

/-! ### The cycles of a Step (R327) -/

/-- A meaning completes and reports 1 to 6 cycles. -/
def ReportsOneToSix (r : Host.Outcome State Fault Refusal) : Prop :=
  ∃ t, r = .next t ∧ 1 ≤ t.stepCycles ∧ t.stepCycles ≤ 6

namespace ReportsOneToSix

theorem retire {n : Nat} (h : 1 ≤ n ∧ n ≤ 6) (t : State) : ReportsOneToSix (retire n t) :=
  ⟨_, rfl, h⟩

theorem ite (taken : Bool) {n m : Nat} (hn : 1 ≤ n ∧ n ≤ 6) (hm : 1 ≤ m ∧ m ≤ 6) (t u : State) :
    ReportsOneToSix (if taken then Machine.retire n t else Machine.retire m u) :=
  ite_completes taken (retire hn t) (retire hm u)

theorem halt (s : State) : ReportsOneToSix (halt s) := by
  rw [halt_eq]
  exact .retire (by decide) _

theorem runCb (op2 : Byte) (s : State) : ReportsOneToSix (runCb op2 s) := by
  unfold Machine.runCb
  dsimp only
  split <;> exact .retire (by decide) _

end ReportsOneToSix

theorem MemOperand.cycles_bounds (m : MemOperand) : 1 ≤ m.cycles ∧ m.cycles ≤ 6 := by
  cases m <;> simp [MemOperand.cycles]

theorem AluOperand.cycles_bounds (x : AluOperand) : 1 ≤ x.cycles ∧ x.cycles ≤ 6 := by
  cases x <;> simp [AluOperand.cycles]

/-- Form by form; `CALL` takes the most cycles. -/
theorem Form.run_reportsOneToSix (f : Form) {s : State} (hi : f.instr.isIllegal = false) (hstop : s.config.stopCycles = 1) :
    ReportsOneToSix (f.run s) := by
  cases f with
  | illegal => cases hi
  | halt => exact .halt s
  | prefixCb => exact .runCb _ _
  | stop => exact .retire (by simp [hstop]) _
  | jpCond cc | jrCond cc | callCond cc | retCond cc =>
    exact .ite (s.cond cc) (by decide) (by decide) _ _
  | loadA m | storeA m => exact .retire m.cycles_bounds _
  | alu op x => exact .retire x.cycles_bounds _
  | nop | ldRegReg | ldRegImm | ldRegAtHl | ldAtHlReg | ldAtHlImm | loadInc | loadDec | storeInc | storeDec | ldPairImm
  | ldAtNnSp | ldSpHl | ldHlSpE | addSpE | push | pop | incReg | decReg | incAtHl | decAtHl | daa | cpl | scf | ccf
  | addHlPair | incPair | decPair | rlca | rrca | rla | rra | rotReg | rotAtHl | bitReg | bitAtHl | resReg | resAtHl
  | setReg | setAtHl | jp | jpHl | jr | call | rst | ret | reti | di | ei =>
    exact .retire (by decide) _

/-- An instruction other than an illegal opcode reports 1 to 6 cycles, and does not count them itself. -/
theorem exec_cycles {i : Instr} {s t : State} (hi : i.isIllegal = false) (hstop : s.config.stopCycles = 1)
    (hexec : exec i s = .next t) :
    1 ≤ t.stepCycles ∧ t.stepCycles ≤ 6 ∧ t.cycleCount = s.cycleCount ∧ t.config = s.config := by
  obtain ⟨f, rfl⟩ := exists_form i
  obtain ⟨u, hrun, hlow, hhigh⟩ := f.run_reportsOneToSix hi hstop
  obtain rfl : u = t := Host.Outcome.next.inj (hrun.symm.trans ((exec_form f s).symm.trans hexec))
  obtain ⟨v, hexec', -, -, -, -, -, hconfig, hcount, -⟩ := controlStateWriters f.instr s
  obtain rfl : v = u := Host.Outcome.next.inj (hexec'.symm.trans hexec)
  exact ⟨hlow, hhigh, hcount, hconfig⟩

/-- With the default counts every arm reports 1 to 6 cycles, and leaves the counter to the end of the Step. -/
theorem step_eq_endStep {s t : State} (hfault : s.fault = none) (hstop : s.config.stopCycles = 1)
    (hstopped : s.config.stopStepCycles = 1) (hstep : step s = .next t) (hnone : t.fault = none) :
    ∃ (u : State) (sampled : Option (Byte × Byte)), t = u.endStep sampled ∧ 1 ≤ u.stepCycles ∧ u.stepCycles ≤ 6
      ∧ u.cycleCount = s.cycleCount ∧ u.config = s.config := by
  obtain ⟨-, ⟨hrun, -⟩ | ⟨hrun, -⟩ | ⟨-, rfl⟩⟩ := step_next_cases hstep
  · cases hi : s.beginStep.promote.fetchInstr.1.isIllegal with
    | true =>
      obtain rfl := Host.Outcome.next.inj ((step_of_illegal hfault hrun hi).symm.trans hstep)
      cases hnone
    | false =>
      obtain ⟨u, hexec, hstep'⟩ := step_of_not_illegal hfault hrun rfl hi
      obtain rfl := Host.Outcome.next.inj (hstep'.symm.trans hstep)
      exact ⟨u, none, rfl, by simpa using exec_cycles hi (by simpa) hexec⟩
  · obtain rfl := Host.Outcome.next.inj ((step_halted_eq hfault hrun).symm.trans hstep)
    exact ⟨s.afterHaltedArm, _, rfl, by simp [State.afterHaltedArm]⟩
  · refine ⟨_, none, rfl, ?_⟩
    cases s.wakeInput <;> simp [State.stoppedArm, hstopped]

/-- Settles O57: an arm reports 1 to 6 cycles, and the end of the Step adds the 5 of a dispatch or none. -/
theorem stepReturnsOneToElevenCycles : Obligations.StepReturnsOneToElevenCycles := by
  intro s t hfault hstop hstopped hdispatch hstep hnone
  obtain ⟨u, sampled, rfl, hlow, hhigh, hcount, hconfig⟩ := step_eq_endStep hfault hstop hstopped hstep hnone
  obtain ⟨hcycles, hcounted⟩ := endStep_cycles u sampled
  rw [hconfig, hdispatch] at hcycles
  rw [hcount] at hcounted
  exact ⟨by omega, by omega, hcounted⟩

end Sys2Proof.Machine
end

section
/-! 70_reset_and_hazards.md: what reset loads (R361 to R364), and that a Step asks memory through the bus only (R379,
20_memory.md R52).

For the second, two runs from states that differ in memory only are compared, part by part. A read that the environment
answers takes its byte from the answers, so it returns the same byte in both runs; and nothing else looks at memory. -/

namespace Sys2Proof.Machine

/-! ### Reset -/

/-- Settles O48, mode by mode. -/
theorem resetLoadsTheMode : Obligations.ResetLoadsTheMode := by
  intro s mode
  cases mode with
  | bootSkip => and_intros <;> rfl
  | powerOn => and_intros <;> rfl

/-- Settles O49: each value is a field of `State.reset`, which is what `reset(BootSkip)` makes of itself. -/
theorem resetStateIsBootSkip : Obligations.ResetStateIsBootSkip := by
  and_intros <;> rfl

/-! ### States that differ in memory only -/

/-- The environment answers the coming `n` reads, and leaves none of the reads it knows of to the store. -/
def Answered (n : Nat) (answers : List (Option Byte)) : Prop := n ≤ answers.length ∧ ∀ x ∈ answers, x.isSome = true

theorem Answered.mono {n k : Nat} {answers : List (Option Byte)} (h : Answered n answers) (hk : k ≤ n) :
    Answered k answers :=
  ⟨hk.trans h.1, h.2⟩

theorem Answered.exists_cons {n : Nat} {answers : List (Option Byte)} (h : Answered (n + 1) answers) :
    ∃ v rest, answers = some v :: rest ∧ Answered n rest := by
  obtain ⟨hlen, hsome⟩ := h
  cases answers with
  | nil => simp at hlen
  | cons x rest =>
    obtain ⟨hx, hrest⟩ := List.forall_mem_cons.mp hsome
    obtain ⟨v, rfl⟩ := Option.isSome_iff_exists.mp hx
    exact ⟨v, rest, rfl, Nat.le_of_succ_le_succ hlen, hrest⟩

/-- `t` is `s` but for memory, and the environment answers their coming `n` reads. -/
structure SameCore (n : Nat) (s t : State) : Prop where
  answered : Answered n s.busAnswers
  exists_mem : ∃ m, t = { s with mem := m }

/-- Two meanings complete in states that differ in memory only. -/
def SameOutcome (n : Nat) (x y : Host.Outcome State Fault Refusal) : Prop :=
  ∃ s t, x = .next s ∧ y = .next t ∧ SameCore n s t

/-- Two operations return the same value, in states that differ in memory only. -/
def SameResult {α : Type} (n : Nat) (x y : α × State) : Prop := y.1 = x.1 ∧ SameCore n x.2 y.2

/-- The state before whose next read the environment has answered `v`. -/
def State.answering (s : State) (v : Byte) : State := { s with busAnswers := some v :: s.busAnswers }

theorem SameOutcome.ite {n : Nat} {x y x' y' : Host.Outcome State Fault Refusal} (c : Bool)
    (hx : SameOutcome n x x') (hy : SameOutcome n y y') : SameOutcome n (if c then x else y) (if c then x' else y') := by
  cases c with
  | true => exact hx
  | false => exact hy

theorem Form.run_prefixCb (s : State) : Form.run s .prefixCb = (cbForm s.fetch8.1).run s.fetch8.2 :=
  (cbForm_run _ _).symm

theorem cbForm_ne_prefixCb (op2 : Byte) : cbForm op2 ≠ .prefixCb := by
  unfold cbForm
  dsimp only
  split <;> simp

namespace SameCore

variable {n k : Nat} {s t : State}

theorem runState_eq (h : SameCore n s t) : t.runState = s.runState := by
  obtain ⟨m, rfl⟩ := h.exists_mem
  rfl

theorem ime_eq (h : SameCore n s t) : t.ime = s.ime := by
  obtain ⟨m, rfl⟩ := h.exists_mem
  rfl

theorem fault_eq (h : SameCore n s t) : t.fault = s.fault := by
  obtain ⟨m, rfl⟩ := h.exists_mem
  rfl

theorem config_eq (h : SameCore n s t) : t.config = s.config := by
  obtain ⟨m, rfl⟩ := h.exists_mem
  rfl

theorem mono (h : SameCore n s t) (hk : k ≤ n) : SameCore k s t := ⟨h.answered.mono hk, h.exists_mem⟩

/-- The next answer of the environment is the same in both runs. -/
theorem exists_answering (h : SameCore (n + 1) s t) :
    ∃ v s' t', s = s'.answering v ∧ t = t'.answering v ∧ SameCore n s' t' := by
  obtain ⟨hans, m, rfl⟩ := h
  obtain ⟨v, rest, heq, hrest⟩ := hans.exists_cons
  have hs : s = State.answering { s with busAnswers := rest } v := by
    rw [State.answering, ← heq]
  exact ⟨v, _, { s with busAnswers := rest, mem := m }, hs, by rw [hs]; rfl, hrest, m, rfl⟩

theorem busValue (h : SameCore (n + 1) s t) (addr : Word) : t.busValue addr = s.busValue addr := by
  obtain ⟨v, s, t, rfl, rfl, -⟩ := h.exists_answering
  rfl

theorem busRead (h : SameCore (n + 1) s t) (addr : Word) : SameCore n (s.busRead addr) (t.busRead addr) := by
  obtain ⟨v, s, t, rfl, rfl, hans, m, rfl⟩ := h.exists_answering
  exact ⟨hans, m, rfl⟩

/-- An update that keeps the pending answers and does not look at memory. -/
theorem update (h : SameCore n s t) {f : State → State} (hans : (f s).busAnswers = s.busAnswers)
    (hmem : ∀ m, ∃ m', f { s with mem := m } = { f s with mem := m' }) : SameCore n (f s) (f t) := by
  obtain ⟨hs, m, rfl⟩ := h
  exact ⟨hans ▸ hs, hmem m⟩

theorem busWrite (h : SameCore n s t) (addr : Word) (v : Byte) : SameCore n (s.busWrite addr v) (t.busWrite addr v) :=
  h.update (f := (·.busWrite addr v)) rfl fun _ => ⟨_, rfl⟩

theorem setReg (h : SameCore n s t) (r : Reg8) (v : Byte) : SameCore n (s.setReg r v) (t.setReg r v) :=
  h.update (f := (·.setReg r v)) (by simp) fun _ => by cases r <;> exact ⟨_, rfl⟩

theorem setFlags (h : SameCore n s t) (z neg x c : Bool) : SameCore n (s.setFlags z neg x c) (t.setFlags z neg x c) :=
  h.update (f := (·.setFlags z neg x c)) rfl fun _ => ⟨_, rfl⟩

theorem writeF (h : SameCore n s t) (v : Byte) : SameCore n (s.writeF v) (t.writeF v) :=
  h.update (f := (·.writeF v)) rfl fun _ => ⟨_, rfl⟩

theorem setSp (h : SameCore n s t) (w : Word) : SameCore n (s.setSp w) (t.setSp w) :=
  h.update (f := (·.setSp w)) rfl fun _ => ⟨_, rfl⟩

theorem setPc (h : SameCore n s t) (w : Word) : SameCore n (s.setPc w) (t.setPc w) :=
  h.update (f := (·.setPc w)) rfl fun _ => ⟨_, rfl⟩

theorem setCycles (h : SameCore n s t) (k : Nat) : SameCore n (s.setCycles k) (t.setCycles k) :=
  h.update (f := (·.setCycles k)) rfl fun _ => ⟨_, rfl⟩

theorem retire (h : SameCore n s t) (k : Nat) : SameOutcome n (retire k s) (retire k t) :=
  ⟨_, _, rfl, rfl, h.setCycles k⟩

theorem setRunState (h : SameCore n s t) (r : RunState) : SameCore n (s.setRunState r) (t.setRunState r) :=
  h.update (f := (·.setRunState r)) rfl fun _ => ⟨_, rfl⟩

theorem setHaltBug (h : SameCore n s t) (x : Bool) : SameCore n (s.setHaltBug x) (t.setHaltBug x) :=
  h.update (f := (·.setHaltBug x)) rfl fun _ => ⟨_, rfl⟩

theorem disableInterrupts (h : SameCore n s t) : SameCore n s.disableInterrupts t.disableInterrupts :=
  h.update (f := State.disableInterrupts) rfl fun _ => ⟨_, rfl⟩

theorem setHl (h : SameCore n s t) (w : Word) : SameCore n (s.setHl w) (t.setHl w) :=
  (h.setReg .h (hi8 w)).setReg .l (lo8 w)

theorem setPair (h : SameCore n s t) (p : Pair16) (w : Word) : SameCore n (s.setPair p w) (t.setPair p w) := by
  cases p with
  | bc => exact (h.setReg .b (hi8 w)).setReg .c (lo8 w)
  | de => exact (h.setReg .d (hi8 w)).setReg .e (lo8 w)
  | hl => exact h.setHl w
  | sp => exact h.setSp w

theorem setStackPair (h : SameCore n s t) (p : StackPair) (w : Word) :
    SameCore n (s.setStackPair p w) (t.setStackPair p w) := by
  cases p with
  | bc => exact h.setPair .bc w
  | de => exact h.setPair .de w
  | hl => exact h.setPair .hl w
  | af => exact (h.setReg .a (hi8 w)).writeF (lo8 w)

theorem incFlags (h : SameCore n s t) (v : Byte) : SameCore n (incFlags v s) (incFlags v t) :=
  h.update (f := Machine.incFlags v) rfl fun _ => ⟨_, rfl⟩

theorem decFlags (h : SameCore n s t) (v : Byte) : SameCore n (decFlags v s) (decFlags v t) :=
  h.update (f := Machine.decFlags v) rfl fun _ => ⟨_, rfl⟩

theorem push16 (h : SameCore n s t) (w : Word) : SameCore n (s.push16 w) (t.push16 w) :=
  h.update (f := (·.push16 w)) rfl fun _ => ⟨_, rfl⟩

theorem aluApply (h : SameCore n s t) (op : AluOp) (v : Byte) : SameCore n (aluApply op v s) (aluApply op v t) := by
  obtain ⟨m, rfl⟩ := h.exists_mem
  cases op with
  | cp => exact h.setFlags _ _ _ _
  | add | adc | sub | sbc | and | xor | or => exact (h.setReg _ _).setFlags _ _ _ _

theorem pop16 (h : SameCore (n + 2) s t) : SameResult n s.pop16 t.pop16 := by
  have hlo := h.busValue s.sp
  obtain ⟨m, rfl⟩ := h.exists_mem
  have h1 := (h.busRead s.sp).setSp (s.sp + 1)
  exact ⟨congrArg₂ ofBytes (h1.busValue (s.sp + 1)) hlo, (h1.busRead _).setSp _⟩

theorem returnFromInterrupt (h : SameCore (n + 2) s t) : SameCore n s.returnFromInterrupt t.returnFromInterrupt := by
  obtain ⟨hpc, hpop⟩ := h.pop16
  simp only [State.returnFromInterrupt, hpc]
  exact (hpop.setPc s.pop16.1).update (f := fun u => { u with ime := true }) rfl fun _ => ⟨_, rfl⟩

/-! ### The fetch -/

theorem fetchOpcode (h : SameCore (n + 1) s t) : SameResult n s.fetchOpcode t.fetchOpcode := by
  rw [fetchOpcode_eq, fetchOpcode_eq]
  obtain ⟨v, s, t, rfl, rfl, hans, m, rfl⟩ := h.exists_answering
  exact ⟨rfl, hans, m, rfl⟩

theorem fetch8 (h : SameCore (n + 1) s t) : SameResult n s.fetch8 t.fetch8 := by
  obtain ⟨v, s, t, rfl, rfl, hans, m, rfl⟩ := h.exists_answering
  exact ⟨rfl, hans, m, rfl⟩

theorem fetch16 (h : SameCore (n + 2) s t) : SameResult n s.fetch16 t.fetch16 := by
  obtain ⟨hlo, h⟩ := h.fetch8
  obtain ⟨hhi, h⟩ := h.fetch8
  exact ⟨congrArg₂ ofBytes hhi hlo, h⟩

/-- The fetch reads one to three bytes. -/
theorem fetchInstr (h : SameCore (n + 3) s t) : SameResult n s.fetchInstr t.fetchInstr := by
  obtain ⟨hop, h⟩ := h.fetchOpcode
  obtain ⟨hbyte, h8⟩ := h.fetch8
  obtain ⟨hword, h16⟩ := h.fetch16
  unfold State.fetchInstr
  simp only [hop, hbyte, hword]
  split
  · exact ⟨rfl, h8.mono (by omega)⟩
  · split
    · exact ⟨rfl, h.mono (by omega)⟩
    · exact ⟨rfl, h8.mono (by omega)⟩
    · exact ⟨rfl, h16⟩

/-! ### The instructions -/

/-- `HALT` with `IME = 0` reads `IF`, and `IE` before it if the parameter says so. -/
theorem haltSample (h : SameCore (n + 2) s t) : SameResult n (haltSample s) (haltSample t) := by
  unfold Machine.haltSample
  rw [h.config_eq]
  cases s.config.haltBugIeGated with
  | true =>
    have hie := h.busRead ieAddr
    exact ⟨congrArg₂ pendingEnabled (h.busValue ieAddr) (hie.busValue ifAddr), hie.busRead ifAddr⟩
  | false =>
    exact ⟨congrArg (pendingEnabled 0xFF) (h.busValue ifAddr), (h.mono (by omega : n + 1 ≤ n + 2)).busRead ifAddr⟩

theorem halt (h : SameCore (n + 2) s t) : SameOutcome n (halt s) (halt t) := by
  obtain ⟨hrequest, hsample⟩ := h.haltSample
  have h0 : SameCore n s t := h.mono (by omega)
  unfold Machine.halt
  simp only [h.ime_eq, hrequest]
  refine .ite s.ime ((h0.setRunState _).retire _) ?_
  split
  · exact (hsample.setRunState _).retire _
  · exact (hsample.setHaltBug _).retire _

/-- Form by form: with the next two answers spelled out, the bytes a meaning reads are the same in both runs by computation,
and so is all it writes besides memory. A meaning that reads uses up one answer (`h1`) or two (`h`), another none (`h0`). -/
theorem run (h : SameCore (n + 2) s t) {f : Form} (hf : f ≠ .prefixCb) : SameOutcome n (f.run s) (f.run t) := by
  have hhalt := h.halt
  obtain ⟨v, s, t, rfl, rfl, hnext⟩ := h.exists_answering
  obtain ⟨w, s, t, rfl, rfl, -, m, rfl⟩ := hnext.exists_answering
  have h1 := h.mono (by omega : n + 1 ≤ n + 2)
  have h0 := h.mono (by omega : n ≤ n + 2)
  cases f with
  | prefixCb => exact absurd rfl hf
  | halt => exact hhalt
  | nop => exact h0.retire _
  | ldRegReg | ldRegImm | resReg | setReg => exact (h0.setReg _ _).retire _
  | ldRegAtHl | loadA => exact ((h1.busRead _).setReg _ _).retire _
  | ldAtHlReg | ldAtHlImm | storeA => exact (h0.busWrite _ _).retire _
  | loadInc | loadDec => exact (((h1.busRead _).setReg _ _).setHl _).retire _
  | storeInc | storeDec => exact ((h0.busWrite _ _).setHl _).retire _
  | ldPairImm | incPair | decPair => exact (h0.setPair _ _).retire _
  | ldAtNnSp => exact ((h0.busWrite _ _).busWrite _ _).retire _
  | ldSpHl => exact (h0.setSp _).retire _
  | ldHlSpE | addHlPair => exact ((h0.setHl _).setFlags _ _ _ _).retire _
  | addSpE => exact ((h0.setSp _).setFlags _ _ _ _).retire _
  | push => exact (h0.push16 _).retire _
  | pop => exact (h.pop16.2.setStackPair _ _).retire _
  | alu op x =>
    cases x with
    | reg | imm => exact (h0.aluApply _ _).retire _
    | atHl => exact ((h1.busRead _).aluApply _ _).retire _
  | incReg => exact ((h0.setReg _ _).incFlags _).retire _
  | decReg => exact ((h0.setReg _ _).decFlags _).retire _
  | daa | cpl | rlca | rrca | rla | rra | rotReg => exact ((h0.setReg _ _).setFlags _ _ _ _).retire _
  | incAtHl => exact (((h1.busRead _).busWrite _ _).incFlags _).retire _
  | decAtHl => exact (((h1.busRead _).busWrite _ _).decFlags _).retire _
  | rotAtHl => exact (((h1.busRead _).busWrite _ _).setFlags _ _ _ _).retire _
  | scf | ccf | bitReg => exact (h0.setFlags _ _ _ _).retire _
  | bitAtHl => exact ((h1.busRead _).setFlags _ _ _ _).retire _
  | resAtHl | setAtHl => exact ((h1.busRead _).busWrite _ _).retire _
  | jp | jpHl | jr => exact (h0.setPc _).retire _
  | jpCond cc | jrCond cc => exact .ite (State.cond _ cc) ((h0.setPc _).retire _) (h0.retire _)
  | call | rst => exact ((h0.push16 _).setPc _).retire _
  | callCond cc => exact .ite (State.cond _ cc) (((h0.push16 _).setPc _).retire _) (h0.retire _)
  | ret => exact (h.pop16.2.setPc _).retire _
  | retCond cc => exact .ite (State.cond _ cc) ((h.pop16.2.setPc _).retire _) (h0.retire _)
  | reti => exact h.returnFromInterrupt.retire _
  | di => exact h0.disableInterrupts.retire _
  | stop => exact (h0.setRunState _).retire _
  | ei | illegal => exact ⟨_, _, rfl, rfl, h0.answered, m, rfl⟩

/-- The slot `PREFIX CB` reads its second byte before the CB instruction runs. -/
theorem exec (h : SameCore (n + 3) s t) (i : Instr) : SameOutcome n (exec i s) (exec i t) := by
  obtain ⟨f, rfl⟩ := exists_form i
  rw [exec_form, exec_form]
  obtain rfl | hf := eq_or_ne f .prefixCb
  · obtain ⟨hop2, h⟩ := h.fetch8
    rw [Form.run_prefixCb, Form.run_prefixCb, hop2]
    exact h.run (cbForm_ne_prefixCb _)
  · exact (h.mono (by omega : n + 2 ≤ n + 3)).run hf

/-! ### The parts of a Step -/

theorem beginStep (h : SameCore n s t) : SameCore n s.beginStep t.beginStep :=
  h.update (f := State.beginStep) rfl fun _ => ⟨_, rfl⟩

theorem promote (h : SameCore n s t) : SameCore n s.promote t.promote := by
  rw [State.promote_eq, State.promote_eq]
  exact h.update (f := fun u => { u with ime := u.ime || u.imeSched, imeSched := false }) rfl fun _ => ⟨_, rfl⟩

theorem undo {u v : State} (h : SameCore n s t) (huv : SameCore k u v) : SameCore k (s.undo u) (t.undo v) := by
  obtain ⟨-, m, rfl⟩ := h
  obtain ⟨hans, _, rfl⟩ := huv
  exact ⟨hans, m, rfl⟩

/-- Three answers for the fetch, three for what it fetches. -/
theorem instructionPhase (h : SameCore (n + 6) s t) : SameOutcome n (instructionPhase s) (instructionPhase t) := by
  obtain ⟨hi, hfetch⟩ := h.promote.fetchInstr
  unfold Machine.instructionPhase
  simp only [hi]
  exact .ite _ ((h.undo hfetch).exec _) (hfetch.exec _)

theorem sampleInterrupts (h : SameCore (n + 2) s t) : SameResult n s.sampleInterrupts t.sampleInterrupts := by
  have hie := h.busRead ieAddr
  exact ⟨congrArg₂ Prod.mk (h.busValue ieAddr) (hie.busValue ifAddr), hie.busRead ifAddr⟩

theorem dispatch (h : SameCore n s t) (k : IntSource) (ifl : Byte) : SameCore n (s.dispatch k ifl) (t.dispatch k ifl) := by
  obtain ⟨m, rfl⟩ := h.exists_mem
  exact (((h.busWrite _ _).disableInterrupts.push16 _).setPc _).setRunState _

theorem dispatchPending (h : SameCore n s t) (ie ifl : Byte) :
    SameCore n (s.dispatchPending ie ifl) (t.dispatchPending ie ifl) := by
  obtain ⟨m, rfl⟩ := h.exists_mem
  unfold State.dispatchPending
  split
  · exact h
  · exact (h.dispatch _ _).setCycles _

/-- The interrupt phase reads `IE` and `IF`, if the arm has not. -/
theorem interruptPhase (h : SameCore (n + 2) s t) (sampled : Option (Byte × Byte)) :
    SameCore n (s.interruptPhase sampled) (t.interruptPhase sampled) := by
  have h0 : SameCore n s t := h.mono (by omega)
  unfold State.interruptPhase
  simp only [h.runState_eq, h.ime_eq]
  split
  · exact h0
  split
  · cases sampled with
    | some => exact h0.dispatchPending _ _
    | none =>
      obtain ⟨hvalue, hsample⟩ := h.sampleInterrupts
      simp only [hvalue]
      exact hsample.dispatchPending _ _
  · exact h0

theorem endStep (h : SameCore (n + 2) s t) (sampled : Option (Byte × Byte)) :
    SameCore n (s.endStep sampled) (t.endStep sampled) :=
  (h.interruptPhase sampled).update (f := State.countCycles) rfl fun _ => ⟨_, rfl⟩

theorem haltedArm (h : SameCore (n + 2) s t) :
    t.haltedArm.2 = s.haltedArm.2 ∧ SameCore n s.haltedArm.1 t.haltedArm.1 := by
  obtain ⟨hvalue, hsample⟩ := h.sampleInterrupts
  have hcycles := hsample.setCycles haltStepCycles
  refine ⟨hvalue, ?_⟩
  unfold State.haltedArm
  simp only [hvalue]
  split
  · exact hcycles
  · exact hcycles.setRunState _

theorem stoppedArm (h : SameCore n s t) (wake : Bool) : SameCore n (s.stoppedArm wake) (t.stoppedArm wake) := by
  obtain ⟨m, rfl⟩ := h.exists_mem
  cases wake with
  | false => exact h.setCycles _
  | true => exact (h.setCycles _).setRunState _

end SameCore

theorem SameOutcome.afterInstruction {n : Nat} {x y : Host.Outcome State Fault Refusal} (h : SameOutcome (n + 2) x y) :
    SameOutcome n (afterInstruction x) (afterInstruction y) := by
  obtain ⟨s, t, rfl, rfl, h⟩ := h
  refine ⟨_, _, rfl, rfl, ?_⟩
  rw [h.fault_eq]
  split
  · exact h.mono (by omega)
  · exact h.endStep none

/-! ### The Step -/

theorem step_interruptDispatch {s : State} (hfault : s.fault = none) (hrun : s.runState = .interruptDispatch) :
    step s = .fault .dispatchInProgress := by
  simp [step, hfault, hrun]

/-- Arm by arm. Eight answers are enough: six for an instruction phase, two for the interrupt phase after it. -/
theorem SameCore.step {s t : State} (h : SameCore 8 s t) (hfault : s.fault = none)
    (hdispatch : s.runState ≠ .interruptDispatch) : SameOutcome 0 (step s) (step t) := by
  have hfault' := h.fault_eq.trans hfault
  cases hrun : s.runState with
  | running =>
    rw [step_running hfault hrun, step_running hfault' (h.runState_eq.trans hrun)]
    exact h.beginStep.instructionPhase.afterInstruction
  | halted =>
    rw [step_halted hfault hrun, step_halted hfault' (h.runState_eq.trans hrun)]
    obtain ⟨hvalue, harm⟩ := (h.mono (by omega : 4 ≤ 8)).beginStep.haltedArm
    rw [hvalue]
    exact ⟨_, _, rfl, rfl, harm.endStep _⟩
  | stopped =>
    have hwake : t.wakeInput = s.wakeInput := by
      obtain ⟨m, rfl⟩ := h.exists_mem
      rfl
    rw [step_stopped hfault hrun, step_stopped hfault' (h.runState_eq.trans hrun), hwake]
    exact ⟨_, _, rfl, rfl, ((h.mono (by omega : 2 ≤ 8)).beginStep.stoppedArm _).endStep none⟩
  | interruptDispatch => exact absurd hrun hdispatch

/-- Settles O53: where no Step is defined both runs stop alike, else the two next states differ in memory only. -/
theorem stepAsksOnlyTheBus : Obligations.StepAsksOnlyTheBus := by
  intro s mem' hlen hsome
  have h : SameCore 8 s { s with mem := mem' } := ⟨⟨hlen, hsome⟩, mem', rfl⟩
  generalize { s with mem := mem' } = s' at h ⊢
  cases hfault : s.fault with
  | some addr => rw [step_faulted hfault, step_faulted (h.fault_eq.trans hfault)]
  | none =>
    have hfault' := h.fault_eq.trans hfault
    by_cases hrun : s.runState = .interruptDispatch
    · rw [step_interruptDispatch hfault hrun, step_interruptDispatch hfault' (h.runState_eq.trans hrun)]
    · obtain ⟨t, t', hstep, hstep', -, m, rfl⟩ := h.step hfault hrun
      rw [hstep, hstep']

end Sys2Proof.Machine
end
